-- ==== Sys2Proof/Word.lean ====
section
/-! DEFINITION. The words of the block: a byte is 8 bits and byte strings are lists, the first byte at offset 0
(00_scope.md R7). -/

namespace Sys2Proof

/-- A byte is 8 bits (R7). -/
abbrev Byte := BitVec 8

/-- A byte string; `len(s)` is `s.length`, `s[i]` its byte at offset `i` (R7). -/
abbrev Bytes := List Byte

end Sys2Proof
end

