-- ==== Sys2Proof/Config.lean ====
section
/-! DEFINITION. The build parameters of R6, as plain data, and the free values: opaque constants without a body for
what the spec leaves open (the collaborator functions, the unspecified reset values). -/

namespace Sys2Proof

/-- The width `W` of the sender identity: 1 or 4 bytes, one fixed constant of a build (R6, R75). -/
inductive SidWidth
  | one
  | four
deriving DecidableEq, Repr

/-- `W` as a number of bytes (R6). -/
def SidWidth.bytes : SidWidth → Nat
  | .one => 1
  | .four => 4

/-- The CRC-16 variant `CRCP = (POLY, INIT, REFIN, REFOUT, XOROUT)` (R6, R91). -/
structure Crcp where
  poly : BitVec 16
  init : BitVec 16
  refin : Bool
  refout : Bool
  xorout : BitVec 16
deriving DecidableEq, Repr

/-- CRC-16/ARC, the default variant (R92). -/
def Crcp.arc : Crcp := { poly := 0x8005, init := 0x0000, refin := true, refout := true, xorout := 0x0000 }
/-- CRC-16/MODBUS (R97). -/
def Crcp.modbus : Crcp := { poly := 0x8005, init := 0xFFFF, refin := true, refout := true, xorout := 0x0000 }
/-- CRC-16/CCITT-FALSE (R97). -/
def Crcp.ccittFalse : Crcp := { poly := 0x1021, init := 0xFFFF, refin := false, refout := false, xorout := 0x0000 }
/-- CRC-16/XMODEM (R97). -/
def Crcp.xmodem : Crcp := { poly := 0x1021, init := 0x0000, refin := false, refout := false, xorout := 0x0000 }
/-- CRC-16/KERMIT (R97). -/
def Crcp.kermit : Crcp := { poly := 0x1021, init := 0x0000, refin := true, refout := true, xorout := 0x0000 }
/-- CRC-16/X-25 (R97). -/
def Crcp.x25 : Crcp := { poly := 0x1021, init := 0xFFFF, refin := true, refout := true, xorout := 0xFFFF }

/-- A text, as its characters (R117 leaves the text encoding to the serializer). -/
abbrev Text := List Char

/-- The parameter `Payload` of R6, "any type": which type the logical payload record has. `credentials` is the source's
pair of texts (R117); `other id` is an unknown type number `id`, whose values nothing is known of (assumption log 2). -/
inductive PayloadType
  | credentials
  | other (id : Nat)
deriving DecidableEq, Repr

/-- The values a payload can be, over all types (R18): "credentials: two text fields, username and secret" (R117), or
value number `n` of another type. Which of them a build's type has is `Machine.payloadHasType`. The block never looks
inside a payload (R18). -/
inductive Payload
  | credentials (username secret : Text)
  | value (n : Nat)
deriving DecidableEq, Repr

/-- Which serializer and cipher are attached to the ports `SER`, `DES`, `ENCRYPT`, `DECRYPT` (R6, R105).
`attached n` is an unknown pair number `n`: its four functions are the opaque constants below, and nothing but the
laws of R107 and R110 is known of them (assumption log 3). `testFixtures` is the pair `TS`, `TC` that
95_test_vectors.md §3 defines (assumption log 4). -/
inductive Collab
  | attached (id : Nat)
  | testFixtures
deriving DecidableEq, Repr

/-- The build parameters of R6. They "act as hardwired control registers" (R28): no command reads or writes them as
registers, and no step of the model changes them. -/
structure Build where
  w : SidWidth
  crcp : Crcp
  payload : PayloadType
  collab : Collab
  keyLen : Nat
  bufMax : Nat
  nEnc : Nat
  nDec : Nat
  testEn : Bool
deriving DecidableEq, Repr

namespace Config

/-- `MAGIC`, the first packet byte, FIXED 0x13 (R6, R64). -/
def magic : Byte := 0x13

/-- Is there a value number `n` in the unknown payload type number `id`? (R6; assumption log 2) -/
opaque hasPayloadValue : (id n : Nat) → Bool

/-- The unknown serializer number `id`: `none` stands for `fail` (R106). -/
opaque serialize : (id : Nat) → Payload → Option Bytes
/-- The unknown deserializer number `id` (R107). -/
opaque deserialize : (id : Nat) → Bytes → Option Payload
/-- The unknown encryptor number `id`, on a key and a plaintext (R108). -/
opaque encrypt : (id : Nat) → Bytes → Bytes → Option Bytes
/-- The unknown decryptor number `id`, on a key and a ciphertext (R109). -/
opaque decrypt : (id : Nat) → Bytes → Bytes → Option Bytes

/-- What byte `a` of `PKT` reads as while nothing has written it, in reset lifetime `draw`: any value, stable between
reads, never assumed zero (R33, U11; assumption log 7). -/
opaque unwrittenByte : (draw a : Nat) → Byte
/-- Byte `i` of `KEYIN` after reset: any value, fixed afterwards, never a chosen constant (R32, R33, U9; log 5). -/
opaque resetKeyByte : (draw i : Nat) → Byte
/-- `ENC[e].SID` after reset, before it is reduced to its width: unspecified, unreachable (R32, U15; log 6). -/
opaque resetEncSid : (draw e : Nat) → Nat
/-- `ENC[e].SEQ` after reset, before it is reduced to its range: unspecified, unreachable (R32, U15; log 6). -/
opaque resetEncSeq : (draw e : Nat) → Nat
/-- Byte `i` of `ENC[e].KEY` after reset: unspecified, unreachable (R32, U15; log 6). -/
opaque resetEncKeyByte : (draw e i : Nat) → Byte
/-- Byte `i` of `DEC[d].KEY` after reset: unspecified, unreachable (R32, U15; log 6). -/
opaque resetDecKeyByte : (draw d i : Nat) → Byte

/-- The build of `State.reset`. DESIGN CHOICE, assumption log 1: R6 leaves every entry but `crcp` OPEN, and every
statement ranges over all builds; this one takes W = 1, KEYLEN = 16 and the values in the header of
95_test_vectors.md, with the source's credentials as payload and unknown collaborators. -/
def build : Build :=
  { w := .one, crcp := Crcp.arc, payload := .credentials, collab := .attached 0, keyLen := 16, bufMax := 4096
    nEnc := 4, nDec := 4, testEn := false }

end Config

end Sys2Proof
end

