-- ==== Sys2Proof/Syntax.lean ====
section
/-! DEFINITION. The six commands of spec/opcode_table.json (30_encoding.md R78). -/

namespace Sys2Proof

/-- One command. A slot index is an unsigned number (R77, R79); that it fits the 8-bit `slot` field is
`Instr.WellFormed`. -/
inductive Instr
  /-- `CRC16`: CRC-16 of a range of the packet buffer (R95). -/
  | crc16
  /-- `ENC.NEW e`: construct an encoder in slot `e` (R121). -/
  | encNew (e : Nat)
  /-- `ENCODE e`: encode the message in `MSG` as encoder `e` (R122). -/
  | encode (e : Nat)
  /-- `DEC.NEW d`: construct a decoder in slot `d` (R141). -/
  | decNew (d : Nat)
  /-- `DECODE d`: check and decode the buffer as decoder `d` (R142). -/
  | decode (d : Nat)
  /-- `TST.IDRST`: set the shared identity counter back to 0 (R165). -/
  | tstIdrst
deriving DecidableEq, Repr

end Sys2Proof
end

