-- ==== Sys2Proof/WellFormed.lean ====
section
/-! DEFINITION. Which commands have an encoding (R77, R79), and which parameter values are legal (R6). -/

namespace Sys2Proof

/-- The slot index of a slot command fits the 8-bit `slot` field (R77). `CRC16` and `TST.IDRST` have no operand. -/
abbrev Instr.WellFormed : Instr → Prop
  | .crc16 => True
  | .encNew e => e < 256
  | .encode e => e < 256
  | .decNew d => d < 256
  | .decode d => d < 256
  | .tstIdrst => True

/-- The check a program can run: `true` exactly on the well-formed commands. -/
def Instr.wellFormed : Instr → Bool
  | .crc16 => true
  | .encNew e => decide (e < 256)
  | .encode e => decide (e < 256)
  | .decNew d => decide (d < 256)
  | .decode d => decide (d < 256)
  | .tstIdrst => true

/-- A legal `CRCP` has bit 0 of `POLY` set (R6, R94). -/
abbrev Crcp.Legal (c : Crcp) : Prop := c.poly.getLsbD 0 = true

/-- The legal parameter values of R6. -/
abbrev Build.Legal (b : Build) : Prop :=
  b.crcp.Legal ∧ 1 ≤ b.keyLen ∧ 25 + b.w.bytes ≤ b.bufMax ∧ b.bufMax ≤ 2 ^ 31 - 1 ∧
    1 ≤ b.nEnc ∧ b.nEnc ≤ 256 ∧ 1 ≤ b.nDec ∧ b.nDec ≤ 256

end Sys2Proof
end

