-- ==== Sys2Proof/Decode.lean ====
section
/-! DEFINITION. The command word `CW` (30_encoding.md R77 to R80): the decoder, total on every 16-bit word and
rejecting by name, then the encoder. Also the textual syntax of R83. -/

namespace Sys2Proof

/-- Why a word is no command (R80). -/
inductive DecodeError
  /-- `op` is none of the six codes of R78. -/
  | unassignedOp (op : BitVec 8)
  /-- `op` is 0x01 or 0x0F and `slot` is not 0. -/
  | slotNotZero (op slot : BitVec 8)
deriving DecidableEq, Repr

/-- The field `op`, bits 15:8 of a command word (R77). -/
def opOf (w : BitVec 16) : BitVec 8 := w.extractLsb' 8 8

/-- The field `slot`, bits 7:0 of a command word (R77). -/
def slotOf (w : BitVec 16) : BitVec 8 := w.extractLsb' 0 8

/-- The decoder (R78, R80): test (1) of R179. The word `0x0F00` decodes in every build; that it is illegal where
`TEST_EN = 0` is test (2) of R179, which the pseudocode of R165 makes inside the command (log 15). -/
def decode (w : BitVec 16) : Except DecodeError Instr :=
  let op := opOf w
  let slot := slotOf w
  if op = 0x01 then if slot = 0 then .ok .crc16 else .error (.slotNotZero op slot)
  else if op = 0x02 then .ok (.encNew slot.toNat)
  else if op = 0x03 then .ok (.encode slot.toNat)
  else if op = 0x04 then .ok (.decNew slot.toNat)
  else if op = 0x05 then .ok (.decode slot.toNat)
  else if op = 0x0F then if slot = 0 then .ok .tstIdrst else .error (.slotNotZero op slot)
  else .error (.unassignedOp op)

/-- The instruction the decoder reads from a table row's bits: a command word is always 16 bits (R77, R82), given as
one number with bit 0 the least significant. A number with a bit above bit 15 is no command word. -/
def decodeTableWord (nbits w : Nat) : Option Instr :=
  if nbits ≤ 16 ∧ w < 2 ^ 16 then
    match decode (BitVec.ofNat 16 w) with
    | .ok i => some i
    | .error _ => none
  else none

/-- The operation code of a command (R78). -/
def Instr.op : Instr → BitVec 8
  | .crc16 => 0x01
  | .encNew _ => 0x02
  | .encode _ => 0x03
  | .decNew _ => 0x04
  | .decode _ => 0x05
  | .tstIdrst => 0x0F

/-- The `slot` operand of a command; `CRC16` and `TST.IDRST` have the field 0 (R77). -/
def Instr.slot : Instr → Nat
  | .crc16 => 0
  | .encNew e => e
  | .encode e => e
  | .decNew d => d
  | .decode d => d
  | .tstIdrst => 0

/-- The encoder: `op` in bits 15:8, `slot` in bits 7:0 (R77, R78). -/
def encode (i : Instr) : BitVec 16 := i.op ++ BitVec.ofNat 8 i.slot

/-- The mnemonic of a command (R78). -/
def Instr.mnemonic : Instr → String
  | .crc16 => "CRC16"
  | .encNew _ => "ENC.NEW"
  | .encode _ => "ENCODE"
  | .decNew _ => "DEC.NEW"
  | .decode _ => "DECODE"
  | .tstIdrst => "TST.IDRST"

/-- The textual syntax: the mnemonic and, for the four slot commands, the slot index in decimal (R83). -/
def Instr.text (i : Instr) : String :=
  match i with
  | .crc16 => i.mnemonic
  | .encNew e => i.mnemonic ++ " " ++ toString e
  | .encode e => i.mnemonic ++ " " ++ toString e
  | .decNew d => i.mnemonic ++ " " ++ toString d
  | .decode d => i.mnemonic ++ " " ++ toString d
  | .tstIdrst => i.mnemonic

end Sys2Proof
end

