-- ==== Sys2Proof/Machine/State.lean ====
section
/-! DEFINITION. The architectural state of the block (10_state.md R10), the host's side of the interface, the reasons a
step can stop, and the machine right after reset (R32). -/

namespace Sys2Proof.Machine

/-- The values of the sequencer's phase register `PH` (R23). -/
inductive Phase
  | idle
  | e0 | e1 | e2 | e3 | e4 | e5 | e6 | e7
  | d0 | d1 | d2 | d3 | d4 | d5 | d6 | d7 | d8
  | c0 | c1
  | n0
deriving DecidableEq, Repr

/-- The register group `MSG`: the logical message the host exchanges with the block (R14 to R18). -/
structure Msg where
  /-- `MSG.SID`, `8·W` bits, unsigned (R14): a number below `2^(8·W)`, which `State.Inv` says (log 18). -/
  sid : Nat
  /-- `MSG.SEQ`, 64 bits, unsigned (R15). -/
  seq : BitVec 64
  /-- `MSG.GRP`, 32 bits, signed: its value is `grp.toInt` (R16). -/
  grp : BitVec 32
  /-- `MSG.SUB`, 32 bits, signed: its value is `sub.toInt` (R17). -/
  sub : BitVec 32
  /-- `MSG.PAY`: no value, or one payload (R18). -/
  pay : Option Payload
deriving DecidableEq, Repr

/-- One encoder slot `ENC[e]` (R26). -/
structure EncSlot where
  valid : Bool
  /-- Below `2^(8·W)`. -/
  sid : Nat
  /-- In `[0, 2^64]`; `2^64` means exhausted. -/
  seq : Nat
  /-- `KEYLEN` bytes. -/
  key : Bytes
deriving DecidableEq, Repr

/-- One decoder slot `DEC[d]` (R27). -/
structure DecSlot where
  valid : Bool
  /-- `KEYLEN` bytes. -/
  key : Bytes
deriving DecidableEq, Repr

/-- The packet buffer `PKT` (R40): the bytes something has written, addresses strictly rising. An address that is not
listed holds no value (R33); what it reads as is `Config.unwrittenByte` (log 7). -/
abbrev Memory := List Host.Cell

/-- The registers the host addresses (R11 to R22). -/
inductive HostReg
  | off | clen | crc | sid | seq | grp | sub | pay | keyin | plen | status | cmd
deriving DecidableEq, Repr

/-- A value on the host's side of a register access (R83). -/
inductive HostVal
  | nat (n : Nat)
  | int (i : Int)
  | payload (p : Option Payload)
  | bytes (s : Bytes)
deriving DecidableEq, Repr

/-- What the host can do (R83, R200). A write of a command word to `CMD`, `wr .cmd (.nat w)`, issues that command
(R22). -/
inductive HostAct
  /-- `WR reg, value`. -/
  | wr (r : HostReg) (v : HostVal)
  /-- `RD reg`. -/
  | rd (r : HostReg)
  /-- `WRPKT off, bytes`. -/
  | wrpkt (off : Nat) (s : Bytes)
  /-- `RDPKT off, n`. -/
  | rdpkt (off n : Nat)
  /-- The reset transition (R200). -/
  | reset
deriving DecidableEq, Repr

/-- The whole state. The fields up to `dec` are the architectural state of R10, with the build constants of R28 beside
them; `draw`, `host` and `reply` are the model's own. `CMD` keeps nothing (R22) and has no field. -/
structure State where
  /-- The build parameters, constants of one build (R6, R28, R31); no step changes them. -/
  build : Build
  /-- `OFF`, 32 bits (R11). -/
  off : BitVec 32
  /-- `CLEN`, 32 bits (R12). -/
  clen : BitVec 32
  /-- `CRC`, 16 bits (R13). -/
  crc : BitVec 16
  /-- `MSG.SID`, `MSG.SEQ`, `MSG.GRP`, `MSG.SUB`, `MSG.PAY` (R14 to R18). -/
  msg : Msg
  /-- `KEYIN`, `KEYLEN` bytes (R19). -/
  keyin : Bytes
  /-- `PLEN`, in `[0, BUF_MAX]` (R20). -/
  plen : Nat
  /-- `STATUS`, 8 bits (R21). -/
  status : BitVec 8
  /-- `PH` (R23). -/
  ph : Phase
  /-- `CUR`, in `[0, BUF_MAX]` (R23, R24). -/
  cur : Nat
  /-- `PKT` (R40). -/
  pkt : Memory
  /-- `IDCTR`, in `[0, 2^(8·W)]` (R25). -/
  idctr : Nat
  /-- `ENC[e]` for `0 ≤ e < N_ENC` (R26). -/
  enc : List EncSlot
  /-- `DEC[d]` for `0 ≤ d < N_DEC` (R27). -/
  dec : List DecSlot
  /-- MODEL: which reset lifetime this is, the first argument of the free values (log 8). -/
  draw : Nat
  /-- MODEL: what the host does next, in order; `step` takes the first (log 9). -/
  host : List HostAct
  /-- MODEL: what the host's last read returned (log 10). -/
  reply : Option HostVal
deriving DecidableEq, Repr

/-- Why the machine stops with a fault. -/
inductive Fault
  /-- Raised by the host actions `WRPKT` and `RDPKT` when they name an offset at or above `BUF_MAX`, a byte that does
  not exist (R40, R194); `off` and `n` are what the action named. Never raised by a command (R48). Safe: the model
  stops where the spec gives nothing. -/
  | packetOffset (off n : Nat)
deriving DecidableEq, Repr

/-- Why a step has no next state. None is raised by one of the six commands. -/
inductive Refusal
  /-- Raised by an arm of `exec` whose instruction has no meaning yet. Safe. -/
  | notModelled (mnemonic : String)
  /-- Raised by `WR` of a read-only register, `CRC` or `STATUS` (R13, R21, R195). Safe: the spec gives the host no
  such move. -/
  | hostWriteForbidden (r : HostReg)
  /-- Raised by `RD` of a write-only register, `KEYIN` or `CMD` (R19, R22, R195). Safe: the spec gives the host no such
  move. -/
  | hostReadForbidden (r : HostReg)
  /-- Raised by `WR` of a value the register has no code for (R11 to R20, R22), and with `CMD` by a pseudo-command whose
  slot index has no command word (R77; log 24). Safe: the spec gives the host no such move. -/
  | hostValueUnfit (r : HostReg)
  /-- Raised by a host access while `PH` is not `IDLE` (R51, U10). Safe, and no state that a run from reset reaches
  raises it. -/
  | hostActsWhileBusy
deriving DecidableEq, Repr

/-- The machine after the reset transition, for any build and any reset lifetime (R32, R201). -/
def State.resetOf (b : Build) (draw : Nat) : State :=
  { build := b
    off := 0
    clen := 0
    crc := 0
    msg := { sid := 0, seq := 0, grp := 0, sub := 0, pay := none }
    keyin := (List.range b.keyLen).map (Config.resetKeyByte draw)
    plen := 0
    status := 0x00
    ph := .idle
    cur := 0
    pkt := []
    idctr := 0
    enc := (List.range b.nEnc).map fun e =>
      { valid := false
        sid := Config.resetEncSid draw e % 2 ^ (8 * b.w.bytes)
        seq := Config.resetEncSeq draw e % (2 ^ 64 + 1)
        key := (List.range b.keyLen).map (Config.resetEncKeyByte draw e) }
    dec := (List.range b.nDec).map fun d =>
      { valid := false
        key := (List.range b.keyLen).map (Config.resetDecKeyByte draw d) }
    draw := draw
    host := []
    reply := none }

/-- The machine right after reset: the reset values of R32 in the build `Config.build` (log 1), with no host action to
come (R202) and the first reset lifetime (log 8). -/
def State.reset : State := State.resetOf Config.build 0

end Sys2Proof.Machine
end

