-- ==== Sys2Proof/Machine/Flags.lean ====
section
/-! DEFINITION. `STATUS`, the block's only flag register: the completion codes (60_exceptions.md R170). There are no
carry, zero or overflow flags (R21). -/

namespace Sys2Proof.Machine

/-- The completions of R170, by name. -/
inductive Completion
  | ok
  | invalidPacket
  | encodeFailure
  | illegalCmd
  | badSlot
  | range
  | idExhausted
  | seqExhausted
deriving DecidableEq, Repr

/-- The code a completion writes to `STATUS` (R170). -/
def statusCode : Completion → BitVec 8
  | .ok => 0x00
  | .invalidPacket => 0x01
  | .encodeFailure => 0x02
  | .illegalCmd => 0x10
  | .badSlot => 0x11
  | .range => 0x12
  | .idExhausted => 0x13
  | .seqExhausted => 0x14

/-- The codes `STATUS` can hold: "All other code values are never written" (R170). -/
def statusCodes : List (BitVec 8) := [0x00, 0x01, 0x02, 0x10, 0x11, 0x12, 0x13, 0x14]

end Sys2Proof.Machine
end

