-- ==== Sys2Proof/Machine/Ops.lean ====
section
/-! DEFINITION. The named operations every command is written with (R8): byte strings and numbers, the packet buffer,
the registers, and the run of one command: entering a phase, calling a collaborator, completing. -/

namespace Sys2Proof.Machine

/-! ### Byte strings and numbers (R7, R8) -/

/-- `be_n(v)`: the `n`-byte big-endian byte string of `v`, byte `i` being `(v >> (8·(n−1−i))) mod 256` (R8, R42). -/
def be (n v : Nat) : Bytes := (List.range n).map fun i => BitVec.ofNat 8 (v >>> (8 * (n - 1 - i)))

/-- `ube(s)`: the number a byte string spells big-endian, `Σ s[i] · 2^(8·(len(s)−1−i))` (R8). -/
def ube : Bytes → Nat
  | [] => 0
  | b :: s => b.toNat * 2 ^ (8 * s.length) + ube s

/-- `tc_32(i) = i mod 2^32`: the two's-complement code of a signed 32-bit number (R8, R191). -/
def tc32 (i : Int) : Nat := (i % 2 ^ 32).toNat

/-- `sext_32(v)`: the signed reading of a 32-bit value (R8, R191). -/
def sext32 (v : Nat) : Int := if v < 2 ^ 31 then (v : Int) else (v : Int) - 2 ^ 32

/-! ### The packet buffer as a list of written cells (R40) -/

/-- The byte written last at offset `a`, if any was. -/
def Memory.get? : Memory → Nat → Option Byte
  | [], _ => none
  | c :: m, a => if c.1 = a then some c.2 else Memory.get? m a

/-- Write byte `b` at offset `a`, keeping the offsets strictly rising. -/
def Memory.set : Memory → Nat → Byte → Memory
  | [], a, b => [(a, b)]
  | c :: m, a, b =>
    if a < c.1 then (a, b) :: c :: m
    else if a = c.1 then (a, b) :: m
    else c :: Memory.set m a b

/-- Write the byte string `s` from offset `a` on, in increasing offset order (R45). -/
def Memory.setBytes : Memory → Nat → Bytes → Memory
  | m, _, [] => m
  | m, a, b :: s => Memory.setBytes (Memory.set m a b) (a + 1) s

/-- The canonical form: offsets strictly rising, each listed offset listed once. An unlisted offset holds no value, so
no entry can equal what an unlisted offset holds (log 7). -/
def Memory.wf : Memory → Bool
  | [] => true
  | [_] => true
  | c :: d :: m => decide (c.1 < d.1) && Memory.wf (d :: m)

/-- Every listed offset lies below `n` (R40: `PKT` has the offsets `0` to `BUF_MAX − 1`). -/
def Memory.below (n : Nat) (m : Memory) : Bool := m.all fun c => decide (c.1 < n)

/-! ### Updates of one register or state element -/

def State.setOff (s : State) (v : BitVec 32) : State := { s with off := v }
def State.setClen (s : State) (v : BitVec 32) : State := { s with clen := v }
def State.setCrc (s : State) (v : BitVec 16) : State := { s with crc := v }
def State.setMsg (s : State) (v : Msg) : State := { s with msg := v }
def State.setKeyin (s : State) (v : Bytes) : State := { s with keyin := v }
def State.setPlen (s : State) (v : Nat) : State := { s with plen := v }
def State.setStatus (s : State) (v : BitVec 8) : State := { s with status := v }
def State.setPh (s : State) (v : Phase) : State := { s with ph := v }
def State.setCur (s : State) (v : Nat) : State := { s with cur := v }
def State.setPkt (s : State) (v : Memory) : State := { s with pkt := v }
def State.setIdctr (s : State) (v : Nat) : State := { s with idctr := v }
def State.setEnc (s : State) (v : List EncSlot) : State := { s with enc := v }
def State.setDec (s : State) (v : List DecSlot) : State := { s with dec := v }
def State.setHost (s : State) (v : List HostAct) : State := { s with host := v }
def State.setReply (s : State) (v : Option HostVal) : State := { s with reply := v }

/-! ### Parameters and slots -/

/-- `W` in bytes (R6). -/
def State.wBytes (s : State) : Nat := s.build.w.bytes

/-- The number of sender identities, `2^(8·W)`: the exhausted value of `IDCTR` (R25). -/
def State.idLimit (s : State) : Nat := 2 ^ (8 * s.wBytes)

/-- The exhausted value of `ENC[e].SEQ` (R26). -/
def seqLimit : Nat := 2 ^ 64

/-- `ENC[e]` (R26); an index that names no slot reads as an unconstructed one. -/
def State.encSlot (s : State) (e : Nat) : EncSlot :=
  s.enc[e]?.getD { valid := false, sid := 0, seq := 0, key := [] }

/-- `DEC[d]` (R27); an index that names no slot reads as an unconstructed one. -/
def State.decSlot (s : State) (d : Nat) : DecSlot := s.dec[d]?.getD { valid := false, key := [] }

/-- `ENC[e] <- x`. -/
def State.setEncSlot (s : State) (e : Nat) (x : EncSlot) : State := s.setEnc (s.enc.set e x)

/-- `DEC[d] <- x`. -/
def State.setDecSlot (s : State) (d : Nat) (x : DecSlot) : State := s.setDec (s.dec.set d x)

/-! ### Access to the packet buffer (R8, R42, R45) -/

/-- `PKT[a]`. An offset nothing has written reads as the free value of this reset lifetime (R33, U11; log 7). -/
def State.pktByte (s : State) (a : Nat) : Byte := (Memory.get? s.pkt a).getD (Config.unwrittenByte s.draw a)

/-- `MemReadBytes(a, n)`: the byte string `PKT[a : a+n]`. -/
def State.memReadBytes (s : State) (a n : Nat) : Bytes := (List.range n).map fun i => s.pktByte (a + i)

/-- `MemRead(a, n) = ube(PKT[a : a+n])`. -/
def State.memRead (s : State) (a n : Nat) : Nat := ube (s.memReadBytes a n)

/-- `MemWriteBytes(a, t)`: `PKT[a : a+len(t)] <- t`. -/
def State.memWriteBytes (s : State) (a : Nat) (t : Bytes) : State := s.setPkt (Memory.setBytes s.pkt a t)

/-- `MemWrite(a, n, v)`: `PKT[a : a+n] <- be_n(v)`. -/
def State.memWrite (s : State) (a n v : Nat) : State := s.memWriteBytes a (be n v)

/-- The cursor `CUR` moves past the bytes `[a, a+n)` just read or written; "it only grows within a command"
(R23, R24; log 13). -/
def State.advance (s : State) (a n : Nat) : State := s.setCur (max s.cur (a + n))

/-- `MemWrite(a, n, v)` within a command: the cursor moves past what was written. -/
def State.put (s : State) (a n v : Nat) : State := (s.memWrite a n v).advance a n

/-- `MemWriteBytes(a, t)` within a command. -/
def State.putBytes (s : State) (a : Nat) (t : Bytes) : State := (s.memWriteBytes a t).advance a t.length

/-! ### The run of one command -/

/-- A collaborator call with its arguments (R105 to R109). -/
inductive Call
  | ser (p : Option Payload)
  | encrypt (key plain : Bytes)
  | decrypt (key body : Bytes)
  | des (plain : Bytes)
deriving DecidableEq, Repr

/-- What happens inside one command, in order: the phases `PH` goes through (R23) and the collaborator calls (R55).
None of it is state: a command is one atomic transition (R50), and no register records how far it got (R152). -/
inductive Event
  | phase (p : Phase)
  | call (c : Call)
deriving DecidableEq, Repr

/-- A command on its way: the state it has made so far, and what has happened, oldest first. -/
structure Run where
  state : State
  events : List Event
deriving DecidableEq, Repr

/-- A command begins in the state its predecessor and the host left (R50). -/
def Run.start (s : State) : Run := { state := s, events := [] }

/-- A step of the command that changes the state. -/
def Run.upd (r : Run) (f : State → State) : Run := { r with state := f r.state }

/-- `PH <- p` (R8, R23). -/
def Run.enter (r : Run) (p : Phase) : Run :=
  { state := r.state.setPh p, events := r.events ++ [.phase p] }

/-- A collaborator is called (R114). -/
def Run.called (r : Run) (c : Call) : Run := { r with events := r.events ++ [.call c] }

/-- The bytes `[a, a+n)` of the buffer are read: reading changes nothing but the cursor (R46). -/
def Run.reads (r : Run) (a n : Nat) : Run := r.upd fun s => s.advance a n

/-- What every completion does to the state, success or failure alike: `STATUS <- code`, `PH <- IDLE` (R8, R181), and
`CUR` is back at its idle value, since no register may record how far a command got (R152; log 13). Nothing is saved,
nothing is masked, no handler is entered (R181), so there is nothing for a return to restore (R182). -/
def State.finish (s : State) (c : Completion) : State := ((s.setStatus (statusCode c)).setPh .idle).setCur 0

/-- `complete(code)`: the command ends (R8). -/
def Run.complete (r : Run) (c : Completion) : Run := r.upd fun s => s.finish c

/-- `raise InvalidPacket` (R8, R171). -/
def Run.raiseInvalidPacket (r : Run) : Run := r.complete .invalidPacket

/-- `raise EncodeFailure` (R8, R172). -/
def Run.raiseEncodeFailure (r : Run) : Run := r.complete .encodeFailure

/-- An illegal command word completes with `ILLEGAL_CMD` and changes no other state; no unit starts (R80, R175). -/
def State.illegalCommand (s : State) : State := s.finish .illegalCmd

/-- The reset transition, from any state (R200, R201): every piece of state takes its reset value, in a new reset
lifetime whose unspecified values are new draws (log 8). The build, the host's coming actions and what the host has read
are not the block's to reset (log 19). -/
def State.hardReset (s : State) : State := ((State.resetOf s.build (s.draw + 1)).setHost s.host).setReply s.reply

end Sys2Proof.Machine
end

