-- ==== Sys2Proof/Machine/Operands.lean ====
section
/-! DEFINITION. The operand forms: the fields of the packet frame and where they stand (30_encoding.md R60 to R74,
45_common_laws.md R194), the CRC-16 function over a byte range (40_crc16.md R91), the register numbers (R11 to R22),
and the phases of each command in order (R23). -/

namespace Sys2Proof.Machine

/-! ### The frame layout: offsets in bytes from packet start, `w` the sender-identity width (R61) -/

/-- `magic`, offset 0, 1 byte (R64). -/
def atMagic : Nat := 0
/-- `senderId`, offset 1, `W` bytes (R65). -/
def atSid : Nat := 1
/-- `sequenceNumber`, offset `1+W`, 8 bytes (R66). -/
def atSeq (w : Nat) : Nat := 1 + w
/-- `totalLength`, offset `9+W`, 4 bytes (R67). -/
def atTotal (w : Nat) : Nat := 9 + w
/-- `checksum1`, offset `13+W`, 2 bytes; it covers `[0, 13+W)` (R68). -/
def atCheck1 (w : Nat) : Nat := 13 + w
/-- `groupCode`, offset `15+W`, 4 bytes (R69). -/
def atGrp (w : Nat) : Nat := 15 + w
/-- `subjectId`, offset `19+W`, 4 bytes (R69). -/
def atSub (w : Nat) : Nat := 19 + w
/-- `encryptedBody`, offset `23+W`, `L` bytes (R70). -/
def atBody (w : Nat) : Nat := 23 + w
/-- `checksum2`, offset `23+W+L`, 2 bytes; it covers `[15+W, 23+W+L)`, `8+L` bytes (R71). -/
def atCheck2 (w l : Nat) : Nat := 23 + w + l
/-- `MIN_LEN = 25 + W`, the frame with an empty body (R72). -/
def minLen (w : Nat) : Nat := 25 + w

/-! ### The CRC-16 function (R91) -/

/-- `reflect_n(v)`: bit `i` of the result is bit `n−1−i` of `v` (R91). -/
def reflect {n : Nat} (v : BitVec n) : BitVec n := v.reverse

/-- One of the eight shifts: the register moves left and takes `POLY` when its bit 15 falls out (R91). -/
def crcShift (poly reg : BitVec 16) : BitVec 16 :=
  if reg.getLsbD 15 then (reg <<< 1) ^^^ poly else reg <<< 1

/-- `n` shifts, one after another. -/
def crcShifts (poly : BitVec 16) : Nat → BitVec 16 → BitVec 16
  | 0, reg => reg
  | n + 1, reg => crcShifts poly n (crcShift poly reg)

/-- One byte enters the register's high byte, reflected where `REFIN` says so, and is shifted in (R91). -/
def crcByte (c : Crcp) (reg : BitVec 16) (b : Byte) : BitVec 16 :=
  crcShifts c.poly 8 (reg ^^^ ((if c.refin then reflect b else b).setWidth 16 <<< 8))

/-- The byte loop, in increasing offset order (R91). -/
def crcBytes (c : Crcp) : BitVec 16 → Bytes → BitVec 16
  | reg, [] => reg
  | reg, b :: s => crcBytes c (crcByte c reg b) s

/-- `crc16(s)`: a pure function of the bytes (R90, R91). -/
def crc16 (c : Crcp) (s : Bytes) : BitVec 16 :=
  let reg := crcBytes c c.init s
  (if c.refout then reflect reg else reg) ^^^ c.xorout

/-- One of the eight right shifts of the shorter form for CRC-16/ARC (R93). -/
def crcArcShift (reg : BitVec 16) : BitVec 16 :=
  if reg.getLsbD 0 then (reg >>> 1) ^^^ 0xA001 else reg >>> 1

/-- `n` right shifts, one after another (R93). -/
def crcArcShifts : Nat → BitVec 16 → BitVec 16
  | 0, reg => reg
  | n + 1, reg => crcArcShifts n (crcArcShift reg)

/-- The byte loop of the shorter form (R93). -/
def crcArcBytes : BitVec 16 → Bytes → BitVec 16
  | reg, [] => reg
  | reg, b :: s => crcArcBytes (crcArcShifts 8 (reg ^^^ b.setWidth 16)) s

/-- `crc16_arc(s)`, the shorter form of the default variant, which needs no reflection (R93). -/
def crc16Arc (s : Bytes) : BitVec 16 := crcArcBytes 0x0000 s

/-- `crc16(PKT, off, n)` in this build (R8, R91). -/
def State.crcOver (s : State) (off n : Nat) : BitVec 16 := crc16 s.build.crcp (s.memReadBytes off n)

/-! ### Framing and field extraction as functions of byte strings (R73, R74) -/

/-- The header before `checksum1`: `[0x13] ++ be_W(sid) ++ be_8(seq) ++ be_4(25+W+L)`, `13+W` bytes (R73). -/
def frameHeader (w sid seq l : Nat) : Bytes :=
  [Config.magic] ++ be w sid ++ be 8 seq ++ be 4 (25 + w + l)

/-- The range of `checksum2`: `be_4(tc_32(grp)) ++ be_4(tc_32(sub)) ++ body`, `8+L` bytes (R73). -/
def frameMiddle (grp sub : Int) (body : Bytes) : Bytes := be 4 (tc32 grp) ++ be 4 (tc32 sub) ++ body

/-- `Frame(sid, seq, grp, sub, body)` (R73). -/
def frame (c : Crcp) (w sid seq : Nat) (grp sub : Int) (body : Bytes) : Bytes :=
  let hdr := frameHeader w sid seq body.length
  let mid := frameMiddle grp sub body
  hdr ++ be 2 (crc16 c hdr).toNat ++ mid ++ be 2 (crc16 c mid).toNat

/-- `s[a:b]` with `b = a + n` (R7). -/
def slice (s : Bytes) (a n : Nat) : Bytes := (s.drop a).take n

/-- The fields of a frame (R74). -/
structure FrameFields where
  sid : Nat
  seq : Nat
  tot : Nat
  c1 : Nat
  grp : Int
  sub : Int
  body : Bytes
  c2 : Nat
deriving DecidableEq, Repr

/-- `Fields(buf)`, for a buffer of at least `25 + W` bytes whose length field is its length (R74). -/
def frameFields (w : Nat) (buf : Bytes) : FrameFields :=
  let l := buf.length - (25 + w)
  { sid := ube (slice buf 1 w)
    seq := ube (slice buf (1 + w) 8)
    tot := ube (slice buf (9 + w) 4)
    c1 := ube (slice buf (13 + w) 2)
    grp := sext32 (ube (slice buf (15 + w) 4))
    sub := sext32 (ube (slice buf (19 + w) 4))
    body := slice buf (23 + w) l
    c2 := ube (slice buf (23 + w + l) 2) }

/-! ### Register numbers (R11 to R22) and phases (R23) -/

/-- The number of a register (R11 to R22, D4). -/
def HostReg.number : HostReg → Nat
  | .off => 0
  | .clen => 1
  | .crc => 2
  | .sid => 3
  | .seq => 4
  | .grp => 5
  | .sub => 6
  | .pay => 7
  | .keyin => 8
  | .plen => 9
  | .status => 10
  | .cmd => 11

/-- The phases of a command, in order (R23; R95, R121, R122, R141, R142, R165). -/
def phasesOf : Instr → List Phase
  | .crc16 => [.c0, .c1]
  | .encNew _ => [.n0]
  | .encode _ => [.e0, .e1, .e2, .e3, .e4, .e5, .e6, .e7]
  | .decNew _ => [.n0]
  | .decode _ => [.d0, .d1, .d2, .d3, .d4, .d5, .d6, .d7, .d8]
  | .tstIdrst => [.n0]

/-- The phases among the events of a run. -/
def eventPhases : List Event → List Phase
  | [] => []
  | .phase p :: es => p :: eventPhases es
  | .call _ :: es => eventPhases es

/-- The collaborator calls among the events of a run. -/
def eventCalls : List Event → List Call
  | [] => []
  | .phase _ :: es => eventCalls es
  | .call c :: es => c :: eventCalls es

end Sys2Proof.Machine
end

