-- ==== Sys2Proof/Machine/Crcu.lean ====
section
/-! DEFINITION. The unit `CRCU`: the command `CRC16` (40_crc16.md R95). -/

namespace Sys2Proof.Machine

/-- Phase `C1`: `CRC <- crc16(PKT, OFF, CLEN)` (R95). -/
def crc16C1 (r : Run) : Run :=
  let s := r.state
  let r := (r.enter .c1).reads s.off.toNat s.clen.toNat
  (r.upd fun t => t.setCrc (s.crcOver s.off.toNat s.clen.toNat)).complete .ok

/-- `CRC16` (R95). The sum `OFF + CLEN` is over the naturals and does not wrap. -/
def runCrc16 (s : State) : Run :=
  let r := (Run.start s).enter .c0
  if s.plen < s.off.toNat + s.clen.toNat then r.complete .range else crc16C1 r

/-- The meaning of `CRC16` (R95). -/
def execCrc16 (s : State) : Host.Outcome State Fault Refusal := .next (runCrc16 s).state

end Sys2Proof.Machine
end

