-- ==== Sys2Proof/Machine/Collab.lean ====
section
/-! DEFINITION. The collaborator ports `SER`, `DES`, `ENCRYPT`, `DECRYPT` (41_collaborators.md), and the test
collaborators `TS` and `TC` that 95_test_vectors.md §3 defines. -/

namespace Sys2Proof.Machine

/-! ### The test serializer `TS` -/

/-- The UTF-8 bytes of one character. -/
def utf8Char (c : Char) : Bytes :=
  let n := c.toNat
  if n < 0x80 then [BitVec.ofNat 8 n]
  else if n < 0x800 then [BitVec.ofNat 8 (0xC0 + n / 64), BitVec.ofNat 8 (0x80 + n % 64)]
  else if n < 0x10000 then
    [BitVec.ofNat 8 (0xE0 + n / 4096), BitVec.ofNat 8 (0x80 + n / 64 % 64), BitVec.ofNat 8 (0x80 + n % 64)]
  else
    [BitVec.ofNat 8 (0xF0 + n / 262144), BitVec.ofNat 8 (0x80 + n / 4096 % 64),
      BitVec.ofNat 8 (0x80 + n / 64 % 64), BitVec.ofNat 8 (0x80 + n % 64)]

/-- `utf8(u)`. -/
def utf8 (t : Text) : Bytes := t.flatMap utf8Char

/-- A UTF-8 continuation byte. -/
def isCont (b : Byte) : Bool := decide (0x80 ≤ b.toNat) && decide (b.toNat < 0xC0)

/-- A character from its code, where the code is a Unicode scalar value at or above `lo` (no overlong form). -/
def scalarFrom (lo n : Nat) : Option Char :=
  if lo ≤ n ∧ n.isValidChar then some (Char.ofNat n) else none

/-- The text a valid UTF-8 byte string spells; `none` where the bytes are not valid UTF-8. -/
def utf8Text : Bytes → Option Text
  | [] => some []
  | b0 :: s0 =>
    if b0.toNat < 0x80 then (utf8Text s0).map fun t => Char.ofNat b0.toNat :: t
    else match s0 with
      | [] => none
      | b1 :: s1 =>
        if !isCont b1 then none
        else if 0xC0 ≤ b0.toNat ∧ b0.toNat < 0xE0 then
          (scalarFrom 0x80 ((b0.toNat - 0xC0) * 64 + (b1.toNat - 0x80))).bind fun c =>
            (utf8Text s1).map fun t => c :: t
        else match s1 with
          | [] => none
          | b2 :: s2 =>
            if !isCont b2 then none
            else if 0xE0 ≤ b0.toNat ∧ b0.toNat < 0xF0 then
              (scalarFrom 0x800 ((b0.toNat - 0xE0) * 4096 + (b1.toNat - 0x80) * 64 + (b2.toNat - 0x80))).bind fun c =>
                (utf8Text s2).map fun t => c :: t
            else match s2 with
              | [] => none
              | b3 :: s3 =>
                if !isCont b3 then none
                else if 0xF0 ≤ b0.toNat then
                  (scalarFrom 0x10000 ((b0.toNat - 0xF0) * 262144 + (b1.toNat - 0x80) * 4096 + (b2.toNat - 0x80) * 64
                    + (b3.toNat - 0x80))).bind fun c => (utf8Text s3).map fun t => c :: t
                else none

/-- `SER((u, s))` of `TS`: each text as one length byte and its UTF-8 bytes, at most 255 of them. A payload that is no
pair of texts is not one `TS` is defined for (log 4). -/
def tsSerialize : Payload → Option Bytes
  | .credentials username secret =>
    let u := utf8 username
    let v := utf8 secret
    if 255 < u.length ∨ 255 < v.length then none
    else some ([BitVec.ofNat 8 u.length] ++ u ++ [BitVec.ofNat 8 v.length] ++ v)
  | .value _ => none

/-- `DES(b)` of `TS`: it rejects a length that does not fit, trailing bytes, and texts that are not UTF-8. -/
def tsDeserialize : Bytes → Option Payload
  | [] => none
  | n :: rest =>
    match rest.drop n.toNat with
    | [] => none
    | m :: v =>
      if v.length = m.toNat then
        (utf8Text (rest.take n.toNat)).bind fun u => (utf8Text v).map fun t => .credentials u t
      else none

/-! ### The test cipher `TC` -/

/-- `x[i] xor k[i mod 16]`. -/
def tcXor (k s : Bytes) : Bytes := s.mapIdx fun i b => b ^^^ k.getD (i % 16) 0

/-- `ENCRYPT(k, p)` of `TC`: pad with `n` bytes `n`, 1 to 16 of them, and XOR with the repeated key. A key that is not
16 bytes is rejected (`TC` is defined for `KEYLEN = 16`; log 4). -/
def tcEncrypt (k p : Bytes) : Option Bytes :=
  if k.length = 16 then
    let n := 16 - p.length % 16
    some (tcXor k (p ++ List.replicate n (BitVec.ofNat 8 n)))
  else none

/-- `DECRYPT(k, c)` of `TC`: whole blocks only, and the padding must be what `ENCRYPT` writes. -/
def tcDecrypt (k c : Bytes) : Option Bytes :=
  if k.length = 16 then
    if c.length = 0 ∨ c.length % 16 ≠ 0 then none
    else
      let x := tcXor k c
      let n := (x.getLastD 0).toNat
      if n < 1 ∨ 16 < n then none
      else if x.drop (x.length - n) = List.replicate n (BitVec.ofNat 8 n) then some (x.take (x.length - n)) else none
  else none

/-! ### What is attached to the ports -/

/-- The serializer attached, on a payload. -/
def attachedSer (c : Collab) (p : Payload) : Option Bytes :=
  match c with
  | .attached id => Config.serialize id p
  | .testFixtures => tsSerialize p

/-- The deserializer attached. -/
def attachedDes (c : Collab) (s : Bytes) : Option Payload :=
  match c with
  | .attached id => Config.deserialize id s
  | .testFixtures => tsDeserialize s

/-- The encryptor attached. -/
def attachedEncrypt (c : Collab) (k s : Bytes) : Option Bytes :=
  match c with
  | .attached id => Config.encrypt id k s
  | .testFixtures => tcEncrypt k s

/-- The decryptor attached. -/
def attachedDecrypt (c : Collab) (k s : Bytes) : Option Bytes :=
  match c with
  | .attached id => Config.decrypt id k s
  | .testFixtures => tcDecrypt k s

/-! ### The payload type (R6, R18) -/

/-- Is this value one of the type a build takes as its `Payload`? Every pair of texts is one of `credentials` (R117 sets
no limits); which values an unknown type has is unknown (log 2). -/
def payloadHasType : PayloadType → Payload → Bool
  | .credentials, .credentials _ _ => true
  | .credentials, .value _ => false
  | .other _, .credentials _ _ => false
  | .other id, .value n => Config.hasPayloadValue id n

/-! ### The four ports (R105): total functions, `none` stands for `fail` -/

/-- `DES : bytes -> ok(Payload) | fail` (R107): what it answers is a value of the build's type `Payload` (log 3). -/
def portDes (b : Build) (s : Bytes) : Option Payload := (attachedDes b.collab s).filter (payloadHasType b.payload)

/-- `SER : Payload or none -> ok(bytes) | fail`, with `SER(none) = fail` (R106). The law of R107, `DES(SER(p)) = p`, is
part of the contract: an attached pair that breaks it at `p` counts as one whose `SER` fails at `p`, so every pair
within the contract is unchanged and no other pair is admitted (log 3). -/
def portSer (b : Build) (p : Option Payload) : Option Bytes :=
  match p with
  | none => none
  | some v => (attachedSer b.collab v).filter fun s => decide (portDes b s = some v)

/-- `DECRYPT : key × bytes -> ok(bytes) | fail` (R109). -/
def portDecrypt (b : Build) (k s : Bytes) : Option Bytes := attachedDecrypt b.collab k s

/-- `ENCRYPT : key × bytes -> ok(bytes) | fail` (R108), within the law of R110, `DECRYPT(k, ENCRYPT(k, s)) = s`, in the
same way as `portSer` (log 3). -/
def portEncrypt (b : Build) (k s : Bytes) : Option Bytes :=
  (attachedEncrypt b.collab k s).filter fun t => decide (portDecrypt b k t = some s)

end Sys2Proof.Machine
end

