-- ==== Sys2Proof/Machine/Decu.lean ====
section
/-! DEFINITION. The unit `DECU`: the commands `DEC.NEW` and `DECODE` (43_decoder.md). The phases `D0` to `D8` stand in
the order of R142, each one definition that ends in the next; every failed test raises the one `InvalidPacket`
(R152). -/

namespace Sys2Proof.Machine

/-! ### `DEC.NEW` (R141) -/

/-- `DEC.NEW d` (R141). -/
def runDecNew (d : Nat) (s : State) : Run :=
  let r := (Run.start s).enter .n0
  if s.build.nDec ≤ d then r.complete .badSlot
  else (r.upd fun t => t.setDecSlot d { valid := true, key := t.keyin }).complete .ok

/-- The meaning of `DEC.NEW d` (R141). -/
def execDecNew (d : Nat) (s : State) : Host.Outcome State Fault Refusal := .next (runDecNew d s).state

/-! ### `DECODE` (R142) -/

/-- `D1`: the buffer is shorter than the frame with an empty body; a test on `PLEN` alone (R143). -/
def State.tooShort (s : State) : Bool := decide (s.plen < minLen s.wBytes)

/-- `D2`: the first byte, all eight bits, is not the magic byte (R144). -/
def State.magicWrong (s : State) : Bool := decide (s.memRead atMagic 1 ≠ Config.magic.toNat)

/-- `D3`: the recomputed `checksum1` is not the stored one (R145). -/
def State.check1Wrong (s : State) : Bool :=
  decide ((s.crcOver 0 (13 + s.wBytes)).toNat ≠ s.memRead (atCheck1 s.wBytes) 2)

/-- The length field, read unsigned (R67, R146). -/
def State.totalField (s : State) : Nat := s.memRead (atTotal s.wBytes) 4

/-- `D5`: the recomputed `checksum2`, over the tags and a body of `l` bytes, is not the stored one (R147). -/
def State.check2Wrong (s : State) (l : Nat) : Bool :=
  decide ((s.crcOver (atGrp s.wBytes) (8 + l)).toNat ≠ s.memRead (atCheck2 s.wBytes l) 2)

/-- The body of `l` bytes, handed to `DECRYPT` unchanged (R148). -/
def State.bodyField (s : State) (l : Nat) : Bytes := s.memReadBytes (atBody s.wBytes) l

/-- The five writes of the commit, one step (R151). The signed registers take `sext_32` of the packet's value. -/
def State.commitMessage (s : State) (pay : Payload) : State :=
  s.setMsg
    { sid := s.memRead atSid s.wBytes
      seq := BitVec.ofNat 64 (s.memRead (atSeq s.wBytes) 8)
      grp := BitVec.ofInt 32 (sext32 (s.memRead (atGrp s.wBytes) 4))
      sub := BitVec.ofInt 32 (sext32 (s.memRead (atSub s.wBytes) 4))
      pay := some pay }

/-- `D8`: commit (R151). -/
def decodeD8 (pay : Payload) (r : Run) : Run :=
  ((r.enter .d8).upd fun s => s.commitMessage pay).complete .ok

/-- `D7`: deserialize (R150). -/
def decodeD7 (plain : Bytes) (r : Run) : Run :=
  let r := (r.enter .d7).called (.des plain)
  match portDes r.state.build plain with
  | none => r.raiseInvalidPacket
  | some pay => decodeD8 pay r

/-- `D6`: decrypt the `l` body bytes with the slot's key (R148, R149). -/
def decodeD6 (d l : Nat) (r : Run) : Run :=
  let s := r.state
  let r := ((r.enter .d6).reads (atBody s.wBytes) l).called (.decrypt (s.decSlot d).key (s.bodyField l))
  match portDecrypt s.build (s.decSlot d).key (s.bodyField l) with
  | none => r.raiseInvalidPacket
  | some plain => decodeD7 plain r

/-- `D5`: `checksum2` (R147). -/
def decodeD5 (d l : Nat) (r : Run) : Run :=
  let s := r.state
  let r := ((r.enter .d5).reads (atGrp s.wBytes) (8 + l)).reads (atCheck2 s.wBytes l) 2
  if s.check2Wrong l then r.raiseInvalidPacket else decodeD6 d l r

/-- `D4`: the length field must equal `PLEN` (R146); then `L = total − (25+W)`. -/
def decodeD4 (d : Nat) (r : Run) : Run :=
  let s := r.state
  let r := (r.enter .d4).reads (atTotal s.wBytes) 4
  if s.totalField ≠ s.plen then r.raiseInvalidPacket else decodeD5 d (s.totalField - minLen s.wBytes) r

/-- `D3`: `checksum1`, before any use of the length field (R145). -/
def decodeD3 (d : Nat) (r : Run) : Run :=
  let s := r.state
  let r := ((r.enter .d3).reads 0 (13 + s.wBytes)).reads (atCheck1 s.wBytes) 2
  if s.check1Wrong then r.raiseInvalidPacket else decodeD4 d r

/-- `D2`: magic (R144). -/
def decodeD2 (d : Nat) (r : Run) : Run :=
  let s := r.state
  let r := (r.enter .d2).reads atMagic 1
  if s.magicWrong then r.raiseInvalidPacket else decodeD3 d r

/-- `D1`: minimum length, before any byte is read (R143). -/
def decodeD1 (d : Nat) (r : Run) : Run :=
  let s := r.state
  let r := r.enter .d1
  if s.tooShort then r.raiseInvalidPacket else decodeD2 d r

/-- `DECODE d`, phase `D0`: admission (R142). -/
def runDecode (d : Nat) (s : State) : Run :=
  let r := (Run.start s).enter .d0
  if s.build.nDec ≤ d ∨ (s.decSlot d).valid = false then r.complete .badSlot else decodeD1 d r

/-- The meaning of `DECODE d` (R142). -/
def execDecode (d : Nat) (s : State) : Host.Outcome State Fault Refusal := .next (runDecode d s).state

end Sys2Proof.Machine
end

