-- ==== Sys2Proof/Machine/Encu.lean ====
section
/-! DEFINITION. The unit `ENCU`: the commands `ENC.NEW` and `ENCODE` (42_encoder.md) and `TST.IDRST`
(44_test_support.md). The phases `E0` to `E7` stand in the order of R122, each one definition that ends in the next. -/

namespace Sys2Proof.Machine

/-! ### `ENC.NEW` (R121) -/

/-- The construction: the identity is taken before the increment, in the same atomic step (R121, R53). -/
def State.constructEncoder (s : State) (e : Nat) : State :=
  (s.setEncSlot e { valid := true, sid := s.idctr, seq := 0, key := s.keyin }).setIdctr (s.idctr + 1)

/-- `ENC.NEW e` (R121). -/
def runEncNew (e : Nat) (s : State) : Run :=
  let r := (Run.start s).enter .n0
  if s.build.nEnc ≤ e then r.complete .badSlot
  else if s.idctr = s.idLimit then r.complete .idExhausted
  else (r.upd fun t => t.constructEncoder e).complete .ok

/-- The meaning of `ENC.NEW e` (R121). -/
def execEncNew (e : Nat) (s : State) : Host.Outcome State Fault Refusal := .next (runEncNew e s).state

/-! ### `ENCODE` (R122) -/

/-- The writes of `E5`: the header of a packet with a body of `l` bytes, each field at its offset, then `checksum1` over
the bytes just written (R122, R126). -/
def State.writeHeader (s : State) (l : Nat) : State :=
  let w := s.wBytes
  let t := (((s.put atMagic 1 Config.magic.toNat).put atSid w s.msg.sid).put (atSeq w) 8 s.msg.seq.toNat).put
    (atTotal w) 4 (25 + w + l)
  t.put (atCheck1 w) 2 (t.crcOver 0 (13 + w)).toNat

/-- The writes of `E6`: the two tags as two's-complement codes, then the body (R122, R126, R191). -/
def State.writeMiddle (s : State) (body : Bytes) : State :=
  let w := s.wBytes
  ((s.put (atGrp w) 4 (tc32 s.msg.grp.toInt)).put (atSub w) 4 (tc32 s.msg.sub.toInt)).putBytes (atBody w) body

/-- The write of `E7`: `checksum2` over the bytes just written, behind a body of `l` bytes (R122, R126). -/
def State.writeCheck2 (s : State) (l : Nat) : State :=
  let w := s.wBytes
  s.put (atCheck2 w l) 2 (s.crcOver (atGrp w) (8 + l)).toNat

/-- `E7`, step 4c: `checksum2`, then `PLEN` (R122). -/
def encodeE7 (l : Nat) (r : Run) : Run :=
  ((r.enter .e7).upd fun s => (s.writeCheck2 l).setPlen (25 + s.wBytes + l)).complete .ok

/-- `E6`, step 4b: mid-section and body (R122). -/
def encodeE6 (body : Bytes) (r : Run) : Run :=
  encodeE7 body.length ((r.enter .e6).upd fun s => s.writeMiddle body)

/-- `E5`, step 4a: header and `checksum1` (R122). -/
def encodeE5 (body : Bytes) (r : Run) : Run :=
  encodeE6 body ((r.enter .e5).upd fun s => s.writeHeader body.length)

/-- `E4`, step 3: the total length, over the naturals, must fit the buffer (R125). -/
def encodeE4 (body : Bytes) (r : Run) : Run :=
  let s := r.state
  let r := r.enter .e4
  if s.build.bufMax < 25 + s.wBytes + body.length then r.raiseEncodeFailure else encodeE5 body r

/-- `E3`, step 2b: encrypt exactly the bytes `SER` returned, with the instance's key (R124). -/
def encodeE3 (e : Nat) (plain : Bytes) (r : Run) : Run :=
  let s := r.state
  let r := (r.enter .e3).called (.encrypt (s.encSlot e).key plain)
  match portEncrypt s.build (s.encSlot e).key plain with
  | none => r.raiseEncodeFailure
  | some body => encodeE4 body r

/-- `E2`, step 2a: serialize the payload; where that fails, `ENCRYPT` is not called (R124). -/
def encodeE2 (e : Nat) (r : Run) : Run :=
  let s := r.state
  let r := (r.enter .e2).called (.ser s.msg.pay)
  match portSer s.build s.msg.pay with
  | none => r.raiseEncodeFailure
  | some plain => encodeE3 e plain r

/-- The assignment of step 1: `MSG.SID` and `MSG.SEQ` take the slot's identity and counter, and the counter moves on
(R123). -/
def State.assignSequence (s : State) (e : Nat) : State :=
  let slot := s.encSlot e
  (s.setMsg { s.msg with sid := slot.sid, seq := BitVec.ofNat 64 slot.seq }).setEncSlot e { slot with seq := slot.seq + 1 }

/-- `E1`, step 1: assign (R123). -/
def encodeE1 (e : Nat) (r : Run) : Run :=
  encodeE2 e ((r.enter .e1).upd fun s => s.assignSequence e)

/-- `ENCODE e`, phase `E0`: admission (R122). -/
def runEncode (e : Nat) (s : State) : Run :=
  let r := (Run.start s).enter .e0
  if s.build.nEnc ≤ e ∨ (s.encSlot e).valid = false then r.complete .badSlot
  else if (s.encSlot e).seq = seqLimit then r.complete .seqExhausted
  else encodeE1 e r

/-- The meaning of `ENCODE e` (R122). -/
def execEncode (e : Nat) (s : State) : Host.Outcome State Fault Refusal := .next (runEncode e s).state

/-! ### `TST.IDRST` (R165) -/

/-- `TST.IDRST` (R165): the word is illegal in a production build. -/
def runTstIdrst (s : State) : Run :=
  let r := (Run.start s).enter .n0
  if s.build.testEn = false then r.complete .illegalCmd
  else (r.upd fun t => t.setIdctr 0).complete .ok

/-- The meaning of `TST.IDRST` (R165). -/
def execTstIdrst (s : State) : Host.Outcome State Fault Refusal := .next (runTstIdrst s).state

end Sys2Proof.Machine
end

