-- ==== Sys2Proof/Machine/Dispatch.lean ====
section
/-! DEFINITION. One arm per command: which meaning each has. -/

namespace Sys2Proof.Machine

def exec (i : Instr) (s : State) : Host.Outcome State Fault Refusal :=
  match i with
  | .crc16 => Sys2Proof.Machine.execCrc16 s
  | .encNew e => Sys2Proof.Machine.execEncNew e s
  | .encode e => Sys2Proof.Machine.execEncode e s
  | .decNew d => Sys2Proof.Machine.execDecNew d s
  | .decode d => Sys2Proof.Machine.execDecode d s
  | .tstIdrst => Sys2Proof.Machine.execTstIdrst s

end Sys2Proof.Machine
end

