-- ==== Sys2Proof/Machine/HostPort.lean ====
section
/-! DEFINITION. The host's side of the interface (30_encoding.md R83): register and buffer access with the access rights
of 45_common_laws.md R195, and issuing a command by a write of `CMD` (10_state.md R22). -/

namespace Sys2Proof.Machine

/-- A command word has been written to `CMD`: the word alone selects the operation (R22, R54). A word that is no
command completes with `ILLEGAL_CMD` (R80, R175). -/
def issue (w : BitVec 16) (s : State) : Host.Outcome State Fault Refusal :=
  match decode w with
  | .ok i => exec i s
  | .error _ => .next s.illegalCommand

/-- `WR reg, value` (R83): the value must be one the register has a code for, and the register writable
(R11 to R22, R195). -/
def hostWrite (r : HostReg) (v : HostVal) (s : State) : Host.Outcome State Fault Refusal :=
  match r, v with
  | .off, .nat n => if n < 2 ^ 32 then .next (s.setOff (BitVec.ofNat 32 n)) else .refused (.hostValueUnfit .off)
  | .clen, .nat n => if n < 2 ^ 32 then .next (s.setClen (BitVec.ofNat 32 n)) else .refused (.hostValueUnfit .clen)
  | .crc, _ => .refused (.hostWriteForbidden .crc)
  | .sid, .nat n => if n < s.idLimit then .next (s.setMsg { s.msg with sid := n }) else .refused (.hostValueUnfit .sid)
  | .seq, .nat n =>
    if n < 2 ^ 64 then .next (s.setMsg { s.msg with seq := BitVec.ofNat 64 n }) else .refused (.hostValueUnfit .seq)
  | .grp, .int i =>
    if -2 ^ 31 ≤ i ∧ i < 2 ^ 31 then .next (s.setMsg { s.msg with grp := BitVec.ofInt 32 i })
    else .refused (.hostValueUnfit .grp)
  | .sub, .int i =>
    if -2 ^ 31 ≤ i ∧ i < 2 ^ 31 then .next (s.setMsg { s.msg with sub := BitVec.ofInt 32 i })
    else .refused (.hostValueUnfit .sub)
  | .pay, .payload p =>
    if p.all (payloadHasType s.build.payload) then .next (s.setMsg { s.msg with pay := p })
    else .refused (.hostValueUnfit .pay)
  | .keyin, .bytes k => if k.length = s.build.keyLen then .next (s.setKeyin k) else .refused (.hostValueUnfit .keyin)
  | .plen, .nat n => if n ≤ s.build.bufMax then .next (s.setPlen n) else .refused (.hostValueUnfit .plen)
  | .status, _ => .refused (.hostWriteForbidden .status)
  | .cmd, .nat w => if w < 2 ^ 16 then issue (BitVec.ofNat 16 w) s else .refused (.hostValueUnfit .cmd)
  | r, _ => .refused (.hostValueUnfit r)

/-- What `RD reg` returns; `none` for the write-only registers `KEYIN` and `CMD` (R19, R22, R195). -/
def hostValue (r : HostReg) (s : State) : Option HostVal :=
  match r with
  | .off => some (.nat s.off.toNat)
  | .clen => some (.nat s.clen.toNat)
  | .crc => some (.nat s.crc.toNat)
  | .sid => some (.nat s.msg.sid)
  | .seq => some (.nat s.msg.seq.toNat)
  | .grp => some (.int s.msg.grp.toInt)
  | .sub => some (.int s.msg.sub.toInt)
  | .pay => some (.payload s.msg.pay)
  | .keyin => none
  | .plen => some (.nat s.plen)
  | .status => some (.nat s.status.toNat)
  | .cmd => none

/-- `RD reg` (R83): reading changes nothing in the block (R46); the host receives the value (log 10). -/
def hostRead (r : HostReg) (s : State) : Host.Outcome State Fault Refusal :=
  match hostValue r s with
  | some v => .next (s.setReply (some v))
  | none => .refused (.hostReadForbidden r)

/-- `WRPKT off, bytes` (R83), with `off + len(bytes) ≤ BUF_MAX` (R194). -/
def hostWritePkt (off : Nat) (t : Bytes) (s : State) : Host.Outcome State Fault Refusal :=
  if off + t.length ≤ s.build.bufMax then .next (s.memWriteBytes off t) else .fault (.packetOffset off t.length)

/-- `RDPKT off, n` (R83), with `off + n ≤ BUF_MAX` (R194). -/
def hostReadPkt (off n : Nat) (s : State) : Host.Outcome State Fault Refusal :=
  if off + n ≤ s.build.bufMax then .next (s.setReply (some (.bytes (s.memReadBytes off n))))
  else .fault (.packetOffset off n)

/-- One host action on a block that can take it. -/
def hostAct (a : HostAct) (s : State) : Host.Outcome State Fault Refusal :=
  match a with
  | .wr r v => hostWrite r v s
  | .rd r => hostRead r s
  | .wrpkt off t => hostWritePkt off t s
  | .rdpkt off n => hostReadPkt off n s
  | .reset => .next s.hardReset

/-- May the host act now? It accesses the block only while `PH = IDLE` (R51); reset may be taken from any state
(R200). -/
def hostMayAct (a : HostAct) (s : State) : Bool :=
  match a with
  | .reset => true
  | .wr _ _ => decide (s.ph = .idle)
  | .rd _ => decide (s.ph = .idle)
  | .wrpkt _ _ => decide (s.ph = .idle)
  | .rdpkt _ _ => decide (s.ph = .idle)

/-- What happens next: with no host action to come the block is idle and nothing changes (R202); else the first one
happens. -/
def stepHost (s : State) : Host.Outcome State Fault Refusal :=
  match s.host with
  | [] => .next s
  | a :: rest => if hostMayAct a s then hostAct a (s.setHost rest) else .refused .hostActsWhileBusy

end Sys2Proof.Machine
end

