-- ==== Sys2Proof/Machine/Step.lean ====
section
/-! DEFINITION. One step of the machine: the host's next action, which is where every command comes from (R54). -/

namespace Sys2Proof.Machine

/-- One step (R50, R54): the host's next action, a command being one whole atomic transition. -/
def step (s : State) : Host.Outcome State Fault Refusal := stepHost s

/-- The state whose very next step runs the command word `w`: the host's next action is the write of `w` to `CMD`
(R22, R54; log 9). A command word has 16 bits, so `nbits` says nothing more (R82). -/
def State.withFetchWord (s : State) (_nbits w : Nat) : State := s.setHost (.wr .cmd (.nat w) :: s.host)

end Sys2Proof.Machine
end

