-- ==== Sys2Proof/Machine/Pseudo.lean ====
section
/-! DEFINITION. The pseudo-commands of 30_encoding.md R84: what the host does to call one of the source's functions, as a
run of host actions one step each, with the reads that come only after `OK` and the buffer the block cannot hold. -/

namespace Sys2Proof.Machine

/-- Where the host is in a pseudo-command: the block as the last action left it, and what the host has read so far, in
order. -/
structure Session where
  state : State
  read : List HostVal
deriving DecidableEq, Repr

/-- What a pseudo-command gives its caller (R84). -/
inductive Answer
  /-- It ran; these are the values its `RD` and `RDPKT` returned, in the order R84 lists them. -/
  | reads (vs : List HostVal)
  /-- "a rejected packet without issuing a command": the bytes are more than the block can hold. -/
  | rejectedPacket
deriving DecidableEq, Repr

/-- What a host action returns to the host: the reply, for the two kinds of read. -/
def HostAct.returned (a : HostAct) (t : State) : List HostVal :=
  match a with
  | .rd _ => t.reply.toList
  | .rdpkt _ _ => t.reply.toList
  | .wr _ _ => []
  | .wrpkt _ _ => []
  | .reset => []

/-- The host acts now, before anything it has planned: one step. -/
def hostDo (a : HostAct) (s : State) : Host.Outcome State Fault Refusal := step (s.setHost (a :: s.host))

/-- Host actions one after another, each one step. -/
def hostDoAll : List HostAct → Session → Host.Outcome Session Fault Refusal
  | [], x => .next x
  | a :: as, x =>
    match hostDo a x.state with
    | .next t => hostDoAll as { state := t, read := x.read ++ a.returned t }
    | .fault f => .fault f
    | .refused r => .refused r

/-- The host goes on with what follows from what it has read. -/
def thenDo (o : Host.Outcome Session Fault Refusal) (acts : List HostVal → List HostAct) :
    Host.Outcome Session Fault Refusal :=
  match o with
  | .next x => hostDoAll (acts x.read) x
  | .fault f => .fault f
  | .refused r => .refused r

/-- The host's next actions where the first value it read, `STATUS`, is `OK` (0x00); else it does nothing more (R84). -/
def onOk (acts : List HostAct) : List HostVal → List HostAct
  | .nat status :: _ => if status = (statusCode .ok).toNat then acts else []
  | _ => []

/-- The reads of `RDPKT 0, PLEN` and of the message's identity, with the value `PLEN` was read as: the second value read
(R84). -/
def readsOfPacket : List HostVal → List HostAct
  | [_, .nat plen] => [.rdpkt 0 plen, .rd .sid, .rd .seq]
  | _ => []

/-- The session a pseudo-command starts. -/
def Session.start (s : State) : Session := { state := s, read := [] }

/-- The end of a pseudo-command: the block's state, and what was read is the caller's. -/
def answered (o : Host.Outcome Session Fault Refusal) : Host.Outcome (State × Answer) Fault Refusal :=
  match o with
  | .next x => .next (x.state, .reads x.read)
  | .fault f => .fault f
  | .refused r => .refused r

/-- A `bytes` argument longer than `BUF_MAX` "cannot be loaded; the host reports it to its caller as a rejected packet
without issuing a command" (R84); any other is loaded, and `o` runs. -/
def ifLoadable (s : State) (bytes : Bytes) (o : Host.Outcome Session Fault Refusal) :
    Host.Outcome (State × Answer) Fault Refusal :=
  if s.build.bufMax < bytes.length then .next (s, .rejectedPacket) else answered o

/-- The host writes the word of command `i` to `CMD` (R22), for a command that has one (`ifHasWord`). -/
def writeCmd (i : Instr) : HostAct := .wr .cmd (.nat (encode i).toNat)

/-- DESIGN CHOICE (log 24): a slot index of 256 or more does not fit the 8-bit `slot` field (R77), so the spec has no
command word for it and does not say what a pseudo-command with one does; it is refused, as a value `CMD` has no code
for. With any other slot index, `o` runs. -/
def ifHasWord (i : Instr) (o : Host.Outcome Session Fault Refusal) : Host.Outcome Session Fault Refusal :=
  if i.wellFormed then o else .refused (.hostValueUnfit .cmd)

/-- `crc16(bytes, offset, length)` (R84). -/
def pseudoCrc16 (bytes : Bytes) (offset length : Nat) (s : State) : Host.Outcome (State × Answer) Fault Refusal :=
  ifLoadable s bytes
    (hostDoAll [.wrpkt 0 bytes, .wr .plen (.nat bytes.length), .wr .off (.nat offset), .wr .clen (.nat length),
      writeCmd .crc16, .rd .status, .rd .crc] (Session.start s))

/-- `encode(message)` on encoder `e` (R84). -/
def pseudoEncode (e : Nat) (grp sub : Int) (pay : Option Payload) (s : State) :
    Host.Outcome (State × Answer) Fault Refusal :=
  answered
    (ifHasWord (.encode e)
      (thenDo
        (thenDo
          (hostDoAll [.wr .grp (.int grp), .wr .sub (.int sub), .wr .pay (.payload pay), writeCmd (.encode e),
            .rd .status] (Session.start s))
          (onOk [.rd .plen]))
        readsOfPacket))

/-- `decode(bytes)` on decoder `d` (R84). -/
def pseudoDecode (d : Nat) (bytes : Bytes) (s : State) : Host.Outcome (State × Answer) Fault Refusal :=
  ifLoadable s bytes
    (ifHasWord (.decode d)
      (thenDo
        (hostDoAll [.wrpkt 0 bytes, .wr .plen (.nat bytes.length), writeCmd (.decode d), .rd .status] (Session.start s))
        (onOk [.rd .sid, .rd .seq, .rd .grp, .rd .sub, .rd .pay])))

/-- Construct an Encoder with key `k` in slot `e` (R84). -/
def pseudoNewEncoder (e : Nat) (k : Bytes) (s : State) : Host.Outcome (State × Answer) Fault Refusal :=
  answered
    (ifHasWord (.encNew e) (hostDoAll [.wr .keyin (.bytes k), writeCmd (.encNew e), .rd .status] (Session.start s)))

/-- Construct a Decoder with key `k` in slot `d` (R84). -/
def pseudoNewDecoder (d : Nat) (k : Bytes) (s : State) : Host.Outcome (State × Answer) Fault Refusal :=
  answered
    (ifHasWord (.decNew d) (hostDoAll [.wr .keyin (.bytes k), writeCmd (.decNew d), .rd .status] (Session.start s)))

end Sys2Proof.Machine
end

