-- ==== Sys2Proof/Machine/Trace.lean ====
section
/-! DEFINITION. What happens inside a command, seen from outside the atomic transition: the run of each command, whose
final state `exec` answers. -/

namespace Sys2Proof.Machine

/-- The run of a command: its phases and collaborator calls in order, and the state it leaves (R23, R55). -/
def runOf (i : Instr) (s : State) : Run :=
  match i with
  | .crc16 => runCrc16 s
  | .encNew e => runEncNew e s
  | .encode e => runEncode e s
  | .decNew d => runDecNew d s
  | .decode d => runDecode d s
  | .tstIdrst => runTstIdrst s

/-- The phases a command goes through from state `s` (R23, R24). -/
def phasesVisited (i : Instr) (s : State) : List Phase := eventPhases (runOf i s).events

/-- The collaborator calls a command makes from state `s` (R55). -/
def callsMade (i : Instr) (s : State) : List Call := eventCalls (runOf i s).events

end Sys2Proof.Machine
end

