-- ==== Sys2Proof/Safety.lean ====
section
/-! DEFINITION. What counts as a safe state and a safe run: the invariant of every state between commands, the
uniqueness of sender identities, and the words the statements use for a step's outcome. -/

namespace Sys2Proof.Machine

/-- What R26 says of an encoder slot: the widths of its fields. -/
abbrev EncSlot.Inv (b : Build) (x : EncSlot) : Prop :=
  x.sid < 2 ^ (8 * b.w.bytes) ∧ x.seq ≤ seqLimit ∧ x.key.length = b.keyLen

/-- What R27 says of a decoder slot. -/
abbrev DecSlot.Inv (b : Build) (x : DecSlot) : Prop := x.key.length = b.keyLen

/-- The invariant of every state the host sees: the parameters are legal (R6), every register and counter lies in its
range and `MSG.PAY` holds no value or one of the build's type (R14, R18 to R20, R25 to R27), `STATUS` holds one of the
eight codes (R170), the packet buffer is in canonical form and inside its address space (R40), and the sequencer is idle
(R24, R51). -/
abbrev State.Inv (s : State) : Prop :=
  s.build.Legal ∧
    (Memory.wf s.pkt = true ∧ Memory.below s.build.bufMax s.pkt = true) ∧
    s.plen ≤ s.build.bufMax ∧
    s.msg.sid < s.idLimit ∧
    s.msg.pay.all (payloadHasType s.build.payload) = true ∧
    s.keyin.length = s.build.keyLen ∧
    s.idctr ≤ s.idLimit ∧
    (s.enc.length = s.build.nEnc ∧ ∀ x ∈ s.enc, x.Inv s.build) ∧
    (s.dec.length = s.build.nDec ∧ ∀ x ∈ s.dec, x.Inv s.build) ∧
    s.status ∈ statusCodes ∧
    s.ph = .idle ∧ s.cur = 0

/-- The identities in use are distinct, and all were given out before the next one (R129). -/
abbrev State.IdsUnique (s : State) : Prop :=
  (∀ e < s.enc.length, (s.encSlot e).valid = true → (s.encSlot e).sid < s.idctr) ∧
    ∀ e < s.enc.length, ∀ f < s.enc.length, e ≠ f → (s.encSlot e).valid = true → (s.encSlot f).valid = true →
      (s.encSlot e).sid ≠ (s.encSlot f).sid

/-- Encoder slot `e` exists and holds a constructed encoder (R176). -/
abbrev State.EncReady (s : State) (e : Nat) : Prop := e < s.build.nEnc ∧ (s.encSlot e).valid = true

/-- Decoder slot `d` exists and holds a constructed decoder (R176). -/
abbrev State.DecReady (s : State) (d : Nat) : Prop := d < s.build.nDec ∧ (s.decSlot d).valid = true

/-- The state after step 1 of `ENCODE e`: identity and sequence number assigned, the counter moved on, nothing else
changed (R123). -/
def State.assigned (s : State) (e : Nat) : State :=
  { s with
    msg := { s.msg with sid := (s.encSlot e).sid, seq := BitVec.ofNat 64 (s.encSlot e).seq }
    enc := s.enc.set e { s.encSlot e with seq := (s.encSlot e).seq + 1 } }

/-- The packet `ENCODE e` makes of the body `body`: `Frame` of the slot's identity and counter and of the message's
tags (R73, R126). -/
def State.packetOf (s : State) (e : Nat) (body : Bytes) : Bytes :=
  frame s.build.crcp s.build.w.bytes (s.encSlot e).sid (BitVec.ofNat 64 (s.encSlot e).seq).toNat s.msg.grp.toInt
    s.msg.sub.toInt body

/-- The body length of a buffer of `PLEN` bytes: `L = PLEN − (25+W)` (R146). -/
def State.bodyLen (s : State) : Nat := s.plen - (25 + s.build.w.bytes)

/-- The body bytes `PKT[23+W : 23+W+L]` (R148). -/
def State.bodyBytes (s : State) : Bytes := s.memReadBytes (23 + s.build.w.bytes) s.bodyLen

/-- The buffer passes the five tests `D1` to `D5`: it is long enough, starts with the magic byte, its length field is
`PLEN`, and both stored checksums are the recomputed ones (R143 to R147). -/
abbrev State.FrameIntact (s : State) : Prop :=
  25 + s.build.w.bytes ≤ s.plen ∧
    s.pktByte 0 = 0x13 ∧
    (s.crcOver 0 (13 + s.build.w.bytes)).toNat = s.memRead (13 + s.build.w.bytes) 2 ∧
    s.memRead (9 + s.build.w.bytes) 4 = s.plen ∧
    (s.crcOver (15 + s.build.w.bytes) (8 + s.bodyLen)).toNat = s.memRead (23 + s.build.w.bytes + s.bodyLen) 2

/-- One of the seven causes of `InvalidPacket` is present, alone or with others (R171). -/
abbrev State.PacketInvalid (s : State) (d : Nat) : Prop :=
  s.plen < 25 + s.build.w.bytes ∨
    s.pktByte 0 ≠ 0x13 ∨
    (s.crcOver 0 (13 + s.build.w.bytes)).toNat ≠ s.memRead (13 + s.build.w.bytes) 2 ∨
    s.memRead (9 + s.build.w.bytes) 4 ≠ s.plen ∨
    (s.crcOver (15 + s.build.w.bytes) (8 + s.bodyLen)).toNat ≠ s.memRead (23 + s.build.w.bytes + s.bodyLen) 2 ∨
    portDecrypt s.build (s.decSlot d).key s.bodyBytes = none ∨
    ∃ plain, portDecrypt s.build (s.decSlot d).key s.bodyBytes = some plain ∧
      portDes s.build plain = none

/-- The message a packet in the buffer carries, with the payload its body gave (R151). -/
def State.messageOf (s : State) (pay : Payload) : Msg :=
  { sid := s.memRead 1 s.build.w.bytes
    seq := BitVec.ofNat 64 (s.memRead (1 + s.build.w.bytes) 8)
    grp := BitVec.ofInt 32 (sext32 (s.memRead (15 + s.build.w.bytes) 4))
    sub := BitVec.ofInt 32 (sext32 (s.memRead (19 + s.build.w.bytes) 4))
    pay := some pay }

/-- The codes a command can complete with, once its word is legal (R170, R193). -/
def codesOf : Instr → List Completion
  | .crc16 => [.ok, .range]
  | .encNew _ => [.ok, .badSlot, .idExhausted]
  | .encode _ => [.ok, .encodeFailure, .badSlot, .seqExhausted]
  | .decNew _ => [.ok, .badSlot]
  | .decode _ => [.ok, .invalidPacket, .badSlot]
  | .tstIdrst => [.ok, .illegalCmd]

/-- The state after a sequence of commands, each run in the state its predecessor left (R50). A command that had no next
state would leave the state as it was; every command has one. -/
def runCommands : List Instr → State → State
  | [], s => s
  | i :: is, s =>
    match exec i s with
    | .next t => runCommands is t
    | .fault _ => runCommands is s
    | .refused _ => runCommands is s

/-- A command that constructs an encoder in one of the `n` slots (R121). -/
def constructsIn (n : Nat) : Instr → Bool
  | .encNew e => decide (e < n)
  | .crc16 => false
  | .encode _ => false
  | .decNew _ => false
  | .decode _ => false
  | .tstIdrst => false

/-- The illegal command words of R80, by their two fields. -/
abbrev IllegalWord (b : Build) (w : BitVec 16) : Prop :=
  w.toNat / 256 ∉ [1, 2, 3, 4, 5, 15] ∨
    ((w.toNat / 256 = 1 ∨ w.toNat / 256 = 15) ∧ w.toNat % 256 ≠ 0) ∨
    (w.toNat / 256 = 15 ∧ b.testEn = false)

/-- The bits of a byte string in the order they enter the CRC register: byte after byte, each byte's bits from the
most significant on, or from the least significant on where `REFIN` reflects it (R91, R94). -/
def crcBitStream (c : Crcp) : Bytes → List Bool
  | [] => []
  | b :: s => ((List.range 8).map fun i => if c.refin then b.getLsbD i else b.getLsbD (7 - i)) ++ crcBitStream c s

end Sys2Proof.Machine
end

