-- ==== Sys2Proof/Certificates/Slice0/Obligations.lean ====
section
/-! DEFINITION. The statements for the provers. Each docstring names the rule of spec/ it formalises. In a state that
meets `State.Inv` the fields `ph := .idle` and `cur := 0` that every completion writes already hold these values. -/

open Sys2Proof Sys2Proof.Machine

/-! ### Encoding (R77 to R82) -/

/-- Decode and encode agree on every command whose slot index fits its field (R77, R78). -/
def Obligations.DecodeOfEncodeGivesTheCommandBack : Prop :=
  ∀ i : Instr, i.WellFormed → decode (encode i) = .ok i

/-- Every word that decodes is the encoding of what it decodes to: no bit of a word is dropped (R77, R80). -/
def Obligations.EncodeOfDecodedWordGivesTheWordBack : Prop :=
  ∀ (w : BitVec 16) (i : Instr), decode w = .ok i → i.WellFormed ∧ encode i = w

/-- Words written out from the table of R78 decode to the commands they stand for. -/
def Obligations.TableWordsDecodeToTheirCommands : Prop :=
  decode 0b0000000100000000 = .ok .crc16 ∧
    decode 0b0000001000000101 = .ok (.encNew 5) ∧
    decode 0b0000001111111111 = .ok (.encode 255) ∧
    decode 0b0000010000000000 = .ok (.decNew 0) ∧
    decode 0b0000010110000001 = .ok (.decode 129) ∧
    decode 0b0000111100000000 = .ok .tstIdrst

/-- R80: a word is illegal exactly when R80 lists it, it completes with `ILLEGAL_CMD` and changes no other state of the
block; every other word is a command. -/
def Obligations.IllegalWordsCompleteWithIllegalCmd : Prop :=
  ∀ (s : State) (w : BitVec 16) (rest : List HostAct), s.ph = .idle → s.host = .wr .cmd (.nat w.toNat) :: rest →
    (IllegalWord s.build w → step s = .next { s with host := rest, status := 0x10, ph := .idle, cur := 0 }) ∧
      (¬ IllegalWord s.build w → ∃ i : Instr, i.WellFormed ∧ decode w = .ok i)

/-- A step runs the decoded command: where the host's next action writes a word that decodes to `i` into `CMD`, the step
is `exec i` on the state without that action; and `withFetchWord` puts a word there (R22, R54). -/
def Obligations.StepRunsTheDecodedCommand : Prop :=
  (∀ (s : State) (w : BitVec 16) (i : Instr) (rest : List HostAct), s.ph = .idle →
      s.host = .wr .cmd (.nat w.toNat) :: rest → decode w = .ok i → step s = exec i { s with host := rest }) ∧
    ∀ (s : State) (w : BitVec 16) (i : Instr), s.ph = .idle → decode w = .ok i →
      step (s.withFetchWord 16 w.toNat) = exec i s

/-! ### Byte order and signed values (R42, R191) -/

/-- Byte order as 20_memory.md gives it (R42; the meaning of big-endian is supplied by the spec, G6, log 17): a field
is stored with its most significant byte at the lowest offset, every other byte of the buffer is unchanged, and the
field reads back; a read is the sum of the bytes at their weights; a byte string is stored byte by byte. -/
def Obligations.FieldsAreStoredBigEndian : Prop :=
  ∀ (s : State) (a n v : Nat),
    s.memRead a n = (∑ i ∈ Finset.range n, (s.pktByte (a + i)).toNat * 2 ^ (8 * (n - 1 - i))) ∧
      (∀ i < n, (s.memWrite a n v).pktByte (a + i) = BitVec.ofNat 8 (v >>> (8 * (n - 1 - i)))) ∧
      (∀ x, x < a ∨ a + n ≤ x → (s.memWrite a n v).pktByte x = s.pktByte x) ∧
      (v < 2 ^ (8 * n) → (s.memWrite a n v).memRead a n = v) ∧
      ∀ (body : Bytes) (i : Nat) (h : i < body.length), (s.memWriteBytes a body).pktByte (a + i) = body[i]

/-- Signed values as 45_common_laws.md gives them (R191; the code is supplied by the spec, G4, log 17): the 32-bit
two's-complement code and the signed reading are what the rule defines them to be and inverse to each
other, with the corner values of the rule's table, as codes and as bytes of the packet. -/
def Obligations.TwosComplementCodesAreInverse : Prop :=
  (∀ i : Int, -2 ^ 31 ≤ i → i < 2 ^ 31 → (tc32 i : Int) = i % 2 ^ 32 ∧ tc32 i < 2 ^ 32 ∧ sext32 (tc32 i) = i) ∧
    (∀ v : Nat, v < 2 ^ 32 → tc32 (sext32 v) = v) ∧
    (∀ v : Nat, (v < 2 ^ 31 → sext32 v = v) ∧ (2 ^ 31 ≤ v → sext32 v = v - 2 ^ 32)) ∧
    (tc32 (-2147483648) = 0x80000000 ∧ tc32 (-1) = 0xFFFFFFFF ∧ tc32 0 = 0 ∧ tc32 1 = 1 ∧
      tc32 2147483647 = 0x7FFFFFFF) ∧
    (be 4 (tc32 (-2147483648)) = [0x80, 0x00, 0x00, 0x00] ∧ be 4 (tc32 (-1)) = [0xFF, 0xFF, 0xFF, 0xFF] ∧
      be 4 (tc32 0) = [0x00, 0x00, 0x00, 0x00] ∧ be 4 (tc32 1) = [0x00, 0x00, 0x00, 0x01] ∧
      be 4 (tc32 2147483647) = [0x7F, 0xFF, 0xFF, 0xFF])

/-! ### The CRC-16 function (R90 to R99) -/

/-- A rule the spec marks as derived (R93, G1, log 17): for the default variant the definition by parameters equals
the shorter form that shifts right, whose constant is the reflected polynomial. -/
def Obligations.ArcCrcEqualsItsRightShiftingForm : Prop :=
  (∀ s : Bytes, crc16 Crcp.arc s = crc16Arc s) ∧ (0xA001 : BitVec 16) = reflect 0x8005

/-- A fact the spec supplies from general knowledge (R94, G3, log 17): with bit 0 of `POLY` set, two strings of one
length that differ, but only inside one window of at most 16 consecutive bits in the order the bits enter the
register, have different CRCs; in particular two strings that differ in exactly one byte. -/
def Obligations.CrcDetectsBurstsUpToSixteenBits : Prop :=
  ∀ c : Crcp, c.Legal →
    (∀ (s t : Bytes) (k : Nat), s.length = t.length → s ≠ t →
        (∀ j, j < k ∨ k + 16 ≤ j → (crcBitStream c s)[j]? = (crcBitStream c t)[j]?) → crc16 c s ≠ crc16 c t) ∧
      ∀ (p q : Bytes) (a b : Byte), a ≠ b → crc16 c (p ++ a :: q) ≠ crc16 c (p ++ b :: q)

/-- A rule the spec marks as derived (R99): the CRC of the empty string; with `INIT = 0` leading zero bytes do not
change a CRC. -/
def Obligations.CrcOfEmptyStringAndOfLeadingZeros : Prop :=
  (∀ c : Crcp, crc16 c [] = c.xorout ^^^ (if c.refout then reflect c.init else c.init)) ∧
    crc16 Crcp.arc [] = 0x0000 ∧
    (∀ (c : Crcp) (s : Bytes), c.init = 0 → crc16 c (0x00 :: s) = crc16 c s) ∧
    ∀ s : Bytes, crc16Arc (0x00 :: s) = crc16Arc s

/-- A table the spec supplies from general knowledge (R97, G2, log 17): the six named variants have the check values
of the table. -/
def Obligations.NamedVariantsHaveTheirCheckValues : Prop :=
  ∀ s : Bytes, s = [0x31, 0x32, 0x33, 0x34, 0x35, 0x36, 0x37, 0x38, 0x39] →
    crc16 { poly := 0x8005, init := 0x0000, refin := true, refout := true, xorout := 0x0000 } s = 0xBB3D ∧
      crc16 { poly := 0x8005, init := 0xFFFF, refin := true, refout := true, xorout := 0x0000 } s = 0x4B37 ∧
      crc16 { poly := 0x1021, init := 0xFFFF, refin := false, refout := false, xorout := 0x0000 } s = 0x29B1 ∧
      crc16 { poly := 0x1021, init := 0x0000, refin := false, refout := false, xorout := 0x0000 } s = 0x31C3 ∧
      crc16 { poly := 0x1021, init := 0x0000, refin := true, refout := true, xorout := 0x0000 } s = 0x2189 ∧
      crc16 { poly := 0x1021, init := 0xFFFF, refin := true, refout := true, xorout := 0xFFFF } s = 0x906E

/-- R98: a CRC value takes two bytes in a packet, its high byte first; read back it is the same number, and a stored
and a recomputed value match exactly when they are the same CRC. -/
def Obligations.ChecksumsAreStoredInTwoBytes : Prop :=
  ∀ (s : State) (a : Nat) (c d : BitVec 16),
    (s.memWrite a 2 c.toNat).pktByte a = c.extractLsb' 8 8 ∧
      (s.memWrite a 2 c.toNat).pktByte (a + 1) = c.extractLsb' 0 8 ∧
      (s.memWrite a 2 c.toNat).memRead a 2 = c.toNat ∧
      ((s.memWrite a 2 c.toNat).memRead a 2 = d.toNat ↔ c = d)

/-! ### The collaborator ports (R105 to R110) -/

/-- The contract of the ports, whatever payload type and whatever pairs a build has (R106 to R110). No payload never
serializes, the deserializer undoes the serializer and the decryptor the encryptor. And the ports answer what the attached
functions answer: `DES` every payload of the type, `DECRYPT` always, `SER` and `ENCRYPT` at every argument at which the
attached pair keeps its law. That a pair outside the contract counts as one that fails is the model's choice (log 3). -/
def Obligations.PortsKeepTheirContract : Prop :=
  ∀ b : Build, portSer b none = none ∧
    (∀ (p : Payload) (s : Bytes), portSer b (some p) = some s → portDes b s = some p) ∧
    (∀ k s t : Bytes, portEncrypt b k s = some t → portDecrypt b k t = some s) ∧
    (∀ (s : Bytes) (p : Payload),
      portDes b s = some p ↔ attachedDes b.collab s = some p ∧ payloadHasType b.payload p = true) ∧
    (∀ k s : Bytes, portDecrypt b k s = attachedDecrypt b.collab k s) ∧
    (∀ p : Payload, payloadHasType b.payload p = true →
      (∀ s, attachedSer b.collab p = some s → attachedDes b.collab s = some p) →
      portSer b (some p) = attachedSer b.collab p) ∧
    ∀ k s : Bytes, (∀ t, attachedEncrypt b.collab k s = some t → attachedDecrypt b.collab k t = some s) →
      portEncrypt b k s = attachedEncrypt b.collab k s

/-- The test collaborators of 95_test_vectors.md §3 are within the contract by themselves: every text goes through its
UTF-8 bytes and back, every byte string through padding and key; the ciphertext has the length that section gives; and
where they are attached and the payload is the credentials, the ports are these functions (that the pair is offered at
all, and fails for keys that are not 16 bytes, is the model's choice, log 4). -/
def Obligations.TestCollaboratorsKeepTheContract : Prop :=
  (∀ t : Text, utf8Text (utf8 t) = some t) ∧
    (∀ (p : Payload) (s : Bytes), tsSerialize p = some s → tsDeserialize s = some p) ∧
    (∀ k s : Bytes, k.length = 16 → ∃ t, tcEncrypt k s = some t ∧ t.length = 16 * (s.length / 16 + 1) ∧
      tcDecrypt k t = some s) ∧
    ∀ b : Build, b.collab = .testFixtures → b.payload = .credentials →
      (∀ p, portSer b (some p) = tsSerialize p) ∧ (∀ s, portDes b s = tsDeserialize s) ∧
        (∀ k s, k.length = 16 → portEncrypt b k s = tcEncrypt k s) ∧ ∀ k s, portDecrypt b k s = tcDecrypt k s

/-! ### The command `CRC16` (R95, R174) -/

/-- R95: `CRC16` writes the CRC of the range and completes with `OK` where the range lies inside the packet (the sum
does not wrap), and else completes with `RANGE` and changes nothing; the phases it enters; it is idempotent; its word is
0x0100, and with another `slot` the word is illegal; the worked example. -/
def Obligations.Crc16ComputesTheRangeChecksum : Prop :=
  (∀ s : State, s.off.toNat + s.clen.toNat ≤ s.plen →
      exec .crc16 s = .next
        { s with crc := crc16 s.build.crcp (s.memReadBytes s.off.toNat s.clen.toNat), status := 0x00, ph := .idle
                 cur := 0 } ∧ phasesVisited .crc16 s = [.c0, .c1]) ∧
    (∀ s : State, s.plen < s.off.toNat + s.clen.toNat →
      exec .crc16 s = .next { s with status := 0x12, ph := .idle, cur := 0 } ∧ phasesVisited .crc16 s = [.c0]) ∧
    (∀ s t : State, exec .crc16 s = .next t → exec .crc16 t = .next t) ∧
    encode .crc16 = 0x0100 ∧
    (∀ (s : State) (w : BitVec 16) (rest : List HostAct), s.ph = .idle → s.host = .wr .cmd (.nat w.toNat) :: rest →
      w.toNat / 256 = 1 → w.toNat % 256 ≠ 0 →
      step s = .next { s with host := rest, status := 0x10, ph := .idle, cur := 0 }) ∧
    ∀ s : State, s.build.crcp = Crcp.arc → s.plen = 9 → s.off = 0 → s.clen = 9 →
      s.memReadBytes 0 9 = [0x31, 0x32, 0x33, 0x34, 0x35, 0x36, 0x37, 0x38, 0x39] →
      exec .crc16 s = .next { s with crc := 0xBB3D, status := 0x00, ph := .idle, cur := 0 }

/-- R174: `RANGE` is the code exactly where `OFF + CLEN > PLEN`, and `CRC` keeps its value. -/
def Obligations.RangeIsRaisedExactlyOutsideThePacket : Prop :=
  ∀ s : State, ∃ t, exec .crc16 s = .next t ∧
    (t.status = 0x12 ↔ s.plen < s.off.toNat + s.clen.toNat) ∧ (t.status = 0x12 → t.crc = s.crc)

/-! ### `ENC.NEW` (R121, R177) -/

/-- R121: `ENC.NEW e` gives slot `e` the next identity, a sequence counter of 0 and the staged key, and counts the
identity; it fails, changing nothing but `STATUS`, where `e` names no slot or no identity is left; its one phase is `N0`
and its word 0x0200 + e. -/
def Obligations.EncNewConstructsAnEncoder : Prop :=
  (∀ (e : Nat) (s : State), e < s.build.nEnc → s.idctr ≠ 2 ^ (8 * s.build.w.bytes) →
      exec (.encNew e) s = .next
        { s with enc := s.enc.set e { valid := true, sid := s.idctr, seq := 0, key := s.keyin }
                 idctr := s.idctr + 1, status := 0x00, ph := .idle, cur := 0 }) ∧
    (∀ (e : Nat) (s : State), s.build.nEnc ≤ e →
      exec (.encNew e) s = .next { s with status := 0x11, ph := .idle, cur := 0 }) ∧
    (∀ (e : Nat) (s : State), e < s.build.nEnc → s.idctr = 2 ^ (8 * s.build.w.bytes) →
      exec (.encNew e) s = .next { s with status := 0x13, ph := .idle, cur := 0 }) ∧
    (∀ (e : Nat) (s : State), phasesVisited (.encNew e) s = [.n0]) ∧
    ∀ e < 256, (encode (.encNew e)).toNat = 0x0200 + e

/-- R177: where every identity has been given out, `ENC.NEW` completes with `ID_EXHAUSTED`, and nothing the host can do
but a reset or `TST.IDRST` ends that condition. -/
def Obligations.IdExhaustionLastsUntilResetOrTestReset : Prop :=
  ∀ s : State, s.idctr = 2 ^ (8 * s.build.w.bytes) →
    (∀ e < s.build.nEnc, exec (.encNew e) s = .next { s with status := 0x13, ph := .idle, cur := 0 }) ∧
      (∀ i : Instr, i ≠ .tstIdrst → ∃ t, exec i s = .next t ∧ t.idctr = 2 ^ (8 * t.build.w.bytes)) ∧
      ∀ t, step s = .next t → t.idctr = 2 ^ (8 * t.build.w.bytes) ∨
        ∃ rest, s.host = .reset :: rest ∨ s.host = .wr .cmd (.nat 0x0F00) :: rest

/-- R178: where the counter of encoder `e` has reached 2^64, `ENCODE e` completes with `SEQ_EXHAUSTED` and changes
nothing but `STATUS`, and nothing the host can do but a reset or `ENC.NEW e` ends that condition. -/
def Obligations.SequenceExhaustionLastsUntilResetOrConstruction : Prop :=
  ∀ (e : Nat) (s : State), s.EncReady e → (s.encSlot e).seq = 2 ^ 64 →
    exec (.encode e) s = .next { s with status := 0x14, ph := .idle, cur := 0 } ∧
      (∀ i : Instr, i ≠ .encNew e → ∃ t, exec i s = .next t ∧ t.encSlot e = s.encSlot e) ∧
      ∀ t, step s = .next t → t.encSlot e = s.encSlot e ∨
        ∃ rest, s.host = .reset :: rest ∨ s.host = .wr .cmd (.nat (0x0200 + e)) :: rest

/-! ### `ENCODE` (R122 to R135) -/

/-- R126: an admitted `ENCODE e` whose payload serializes and encrypts to a body that fits leaves exactly
`Frame(MSG.SID, MSG.SEQ, MSG.GRP, MSG.SUB, body)` in `PKT[0 : total]` and `PLEN = total`, where the offsets at and above
`total` keep their bytes; the slot's counter moves on; nothing else changes. -/
def Obligations.EncodeWritesTheFrame : Prop :=
  ∀ (e : Nat) (s : State) (plain body : Bytes), s.EncReady e → (s.encSlot e).seq ≠ 2 ^ 64 →
    portSer s.build s.msg.pay = some plain →
    portEncrypt s.build (s.encSlot e).key plain = some body →
    25 + s.build.w.bytes + body.length ≤ s.build.bufMax →
    exec (.encode e) s = .next
        { s.assigned e with
          pkt := Memory.setBytes s.pkt 0 (s.packetOf e body)
          plen := 25 + s.build.w.bytes + body.length, status := 0x00, ph := .idle, cur := 0 } ∧
      (s.packetOf e body).length = 25 + s.build.w.bytes + body.length

/-- What `ENCODE e` leaves in the packet buffer, byte by byte: on `OK` the bytes below the new `PLEN` are the packet's
and every other byte is unchanged; otherwise every byte is unchanged (R47, R126, R127). -/
def Obligations.EncodeStoresOnlyThePacketBytes : Prop :=
  ∀ (e : Nat) (s : State), ∃ t, exec (.encode e) s = .next t ∧
    (t.status ≠ 0x00 → t.pkt = s.pkt ∧ t.plen = s.plen) ∧
    (t.status = 0x00 → ∃ plain body,
      portSer s.build s.msg.pay = some plain ∧
        portEncrypt s.build (s.encSlot e).key plain = some body ∧
        t.plen = 25 + s.build.w.bytes + body.length ∧ t.plen ≤ s.build.bufMax ∧
        t.memReadBytes 0 t.plen = s.packetOf e body ∧
        ∀ a, t.plen ≤ a → t.pktByte a = s.pktByte a)

/-- R127: what every outcome of `ENCODE e` leaves. A failure of `SER`, of `ENCRYPT` or of the size test consumes a
sequence number, leaves `MSG.SID` and `MSG.SEQ` written, and leaves the buffer alone; the two command faults change
nothing but `STATUS`; and on `OK` the packet is written besides. -/
def Obligations.EncodeFailureConsumesASequenceNumber : Prop :=
  (∀ (e : Nat) (s : State), s.EncReady e → (s.encSlot e).seq ≠ 2 ^ 64 → portSer s.build s.msg.pay = none →
      exec (.encode e) s = .next { s.assigned e with status := 0x02, ph := .idle, cur := 0 }) ∧
    (∀ (e : Nat) (s : State) (plain : Bytes), s.EncReady e → (s.encSlot e).seq ≠ 2 ^ 64 →
      portSer s.build s.msg.pay = some plain →
      portEncrypt s.build (s.encSlot e).key plain = none →
      exec (.encode e) s = .next { s.assigned e with status := 0x02, ph := .idle, cur := 0 }) ∧
    (∀ (e : Nat) (s : State) (plain body : Bytes), s.EncReady e → (s.encSlot e).seq ≠ 2 ^ 64 →
      portSer s.build s.msg.pay = some plain →
      portEncrypt s.build (s.encSlot e).key plain = some body →
      s.build.bufMax < 25 + s.build.w.bytes + body.length →
      exec (.encode e) s = .next { s.assigned e with status := 0x02, ph := .idle, cur := 0 }) ∧
    (∀ (e : Nat) (s : State), ¬ s.EncReady e →
      exec (.encode e) s = .next { s with status := 0x11, ph := .idle, cur := 0 }) ∧
    (∀ (e : Nat) (s : State), s.EncReady e → (s.encSlot e).seq = 2 ^ 64 →
      exec (.encode e) s = .next { s with status := 0x14, ph := .idle, cur := 0 }) ∧
    ∀ (e : Nat) (s : State) (plain body : Bytes), s.EncReady e → (s.encSlot e).seq ≠ 2 ^ 64 →
      portSer s.build s.msg.pay = some plain →
      portEncrypt s.build (s.encSlot e).key plain = some body →
      25 + s.build.w.bytes + body.length ≤ s.build.bufMax →
      exec (.encode e) s = .next
        { s.assigned e with
          pkt := Memory.setBytes s.pkt 0 (s.packetOf e body)
          plen := 25 + s.build.w.bytes + body.length, status := 0x00, ph := .idle, cur := 0 }

/-- Every admitted `ENCODE e`, whether it then succeeds or fails, hands out the slot's identity and its counter's value
before the increment, whatever the host had put into `MSG.SID` and `MSG.SEQ`; the first one after a successful `ENC.NEW e`,
whether slot `e` was empty, in use or exhausted before, hands out 0 and the identity just taken (R123, R128). -/
def Obligations.AdmittedEncodeAssignsIdentityAndSequence : Prop :=
  (∀ (e : Nat) (s : State), s.EncReady e → e < s.enc.length → (s.encSlot e).seq < 2 ^ 64 →
    ∃ t, exec (.encode e) s = .next t ∧ t.msg.sid = (s.encSlot e).sid ∧ t.msg.seq.toNat = (s.encSlot e).seq ∧
      t.encSlot e = { s.encSlot e with seq := (s.encSlot e).seq + 1 } ∧
      ∀ f, f ≠ e → t.encSlot f = s.encSlot f) ∧
    ∀ (e : Nat) (s u : State), e < s.build.nEnc → s.enc.length = s.build.nEnc →
      exec (.encNew e) s = .next u → u.status = 0x00 →
      ∃ t, exec (.encode e) u = .next t ∧ t.msg.sid = s.idctr ∧ t.msg.seq = 0 ∧
        t.encSlot e = { valid := true, sid := s.idctr, seq := 1, key := s.keyin }

/-- A rule the spec marks as derived (R130): status, and on `OK` the message identity, `PLEN` and the packet's bytes,
are the same from any two states that agree in the slot, the message's tags and payload, and the parameters. -/
def Obligations.PacketDependsOnlyOnTheOperands : Prop :=
  ∀ (e : Nat) (s t : State), s.build = t.build → s.encSlot e = t.encSlot e → s.msg.grp = t.msg.grp →
    s.msg.sub = t.msg.sub → s.msg.pay = t.msg.pay →
    ∃ s' t', exec (.encode e) s = .next s' ∧ exec (.encode e) t = .next t' ∧ s'.status = t'.status ∧
      (s'.status = 0x00 → s'.msg = t'.msg ∧ s'.plen = t'.plen ∧
        s'.memReadBytes 0 s'.plen = t'.memReadBytes 0 t'.plen)

/-- Encoding the same message twice on one instance gives two packets that differ in nothing but the sequence number and
`checksum1`; the second number is the first plus one (R133). -/
def Obligations.SecondPacketDiffersOnlyInSequenceAndChecksum1 : Prop :=
  ∀ (e : Nat) (s t u : State), e < s.enc.length → exec (.encode e) s = .next t → t.status = 0x00 →
    exec (.encode e) t = .next u → u.status = 0x00 →
    u.plen = t.plen ∧ u.msg = { t.msg with seq := t.msg.seq + 1 } ∧
      ∀ a, ¬ (1 + s.build.w.bytes ≤ a ∧ a < 9 + s.build.w.bytes) →
        ¬ (13 + s.build.w.bytes ≤ a ∧ a < 15 + s.build.w.bytes) → u.pktByte a = t.pktByte a

/-- Sequence numbers count the admitted encodes of one instance: over any commands that do not construct slot `e` again,
as long as the counter does not pass its top, it moves by exactly the number of `ENCODE e` among them, and the identity
and the key stay (R128). -/
def Obligations.SequenceNumbersCountAdmittedEncodes : Prop :=
  ∀ (e : Nat) (is : List Instr) (s : State), s.EncReady e → Instr.encNew e ∉ is →
    (s.encSlot e).seq + is.count (.encode e) ≤ 2 ^ 64 →
    (runCommands is s).encSlot e =
      { s.encSlot e with seq := (s.encSlot e).seq + is.count (.encode e) }

/-- Identities count the constructions in order: over any commands without `TST.IDRST`, as long as the identities last,
`IDCTR` moves by exactly the number of `ENC.NEW` on existing slots, and the next construction gets that number as its
identity (R129). -/
def Obligations.IdentitiesFollowConstructionOrder : Prop :=
  ∀ (is : List Instr) (s : State), Instr.tstIdrst ∉ is → s.enc.length = s.build.nEnc →
    s.idctr + is.countP (constructsIn s.build.nEnc) ≤ 2 ^ (8 * s.build.w.bytes) →
    (runCommands is s).idctr = s.idctr + is.countP (constructsIn s.build.nEnc) ∧
      ∀ e < s.build.nEnc, s.idctr + is.countP (constructsIn s.build.nEnc) < 2 ^ (8 * s.build.w.bytes) →
        ∃ t, exec (.encNew e) (runCommands is s) = .next t ∧ t.status = 0x00 ∧
          (t.encSlot e).sid = s.idctr + is.countP (constructsIn s.build.nEnc) ∧ (t.encSlot e).seq = 0

/-- A rule the spec marks as derived (R74): field extraction gives back what was framed, with the checksums of the two
ranges. -/
def Obligations.FieldsOfAFrameAreItsArguments : Prop :=
  ∀ (c : Crcp) (w sid seq : Nat) (grp sub : Int) (body : Bytes), sid < 2 ^ (8 * w) → seq < 2 ^ 64 →
    -2 ^ 31 ≤ grp → grp < 2 ^ 31 → -2 ^ 31 ≤ sub → sub < 2 ^ 31 → 25 + w + body.length < 2 ^ 32 →
    (frame c w sid seq grp sub body).length = 25 + w + body.length ∧
      frameFields w (frame c w sid seq grp sub body) =
        { sid := sid, seq := seq, tot := 25 + w + body.length
          c1 := (crc16 c (frameHeader w sid seq body.length)).toNat, grp := grp, sub := sub, body := body
          c2 := (crc16 c (frameMiddle grp sub body)).toNat }

/-! ### `DEC.NEW` (R141) -/

/-- R141: `DEC.NEW d` gives slot `d` the staged key; it fails, changing nothing but `STATUS`, where `d` names no
slot; its one phase is `N0` and its word 0x0400 + d. -/
def Obligations.DecNewConstructsADecoder : Prop :=
  (∀ (d : Nat) (s : State), d < s.build.nDec →
      exec (.decNew d) s = .next
        { s with dec := s.dec.set d { valid := true, key := s.keyin }, status := 0x00, ph := .idle, cur := 0 }) ∧
    (∀ (d : Nat) (s : State), s.build.nDec ≤ d →
      exec (.decNew d) s = .next { s with status := 0x11, ph := .idle, cur := 0 }) ∧
    (∀ (d : Nat) (s : State), phasesVisited (.decNew d) s = [.n0]) ∧
    ∀ d < 256, (encode (.decNew d)).toNat = 0x0400 + d

/-! ### `DECODE` (R142 to R160) -/

/-- R151: a buffer that passes all seven tests is committed: the five message registers take the packet's fields and the
payload, and nothing else changes; and only such a buffer changes a message register. -/
def Obligations.DecodeCommitsAValidPacket : Prop :=
  (∀ (d : Nat) (s : State) (plain : Bytes) (pay : Payload), s.DecReady d → s.FrameIntact →
      portDecrypt s.build (s.decSlot d).key s.bodyBytes = some plain →
      portDes s.build plain = some pay →
      exec (.decode d) s = .next { s with msg := s.messageOf pay, status := 0x00, ph := .idle, cur := 0 }) ∧
    ∀ (d : Nat) (s t : State), exec (.decode d) s = .next t → t.msg ≠ s.msg →
      s.DecReady d ∧ s.FrameIntact ∧ ∃ plain pay,
        portDecrypt s.build (s.decSlot d).key s.bodyBytes = some plain ∧
          portDes s.build plain = some pay

/-- R171: each of the seven causes, alone or with others, makes `DECODE` complete with `INVALID_PACKET` and change
nothing else; without one it does not; and no other command raises it. -/
def Obligations.DecodeRejectsForEachOfSevenCauses : Prop :=
  (∀ (d : Nat) (s : State), s.DecReady d → s.PacketInvalid d →
      exec (.decode d) s = .next { s with status := 0x01, ph := .idle, cur := 0 }) ∧
    ∀ (i : Instr) (s : State), ∃ t, exec i s = .next t ∧
      (t.status = 0x01 → ∃ d, i = .decode d ∧ s.DecReady d ∧ s.PacketInvalid d)

/-- A `DECODE` on a slot that is missing or was never constructed completes with `BAD_SLOT`, not `INVALID_PACKET`, and
changes nothing else (R142, R176). -/
def Obligations.DecodeOfAnUnconstructedSlotIsBadSlot : Prop :=
  ∀ (d : Nat) (s : State), ¬ s.DecReady d →
    exec (.decode d) s = .next { s with status := 0x11, ph := .idle, cur := 0 }

/-- R176: `BAD_SLOT` is the code exactly where the slot index names no slot or, for `ENCODE` and `DECODE`, the slot
holds no constructed instance. -/
def Obligations.BadSlotIsRaisedExactlyForMissingInstances : Prop :=
  ∀ (k : Nat) (s : State),
    (∃ t, exec (.encNew k) s = .next t ∧ (t.status = 0x11 ↔ s.build.nEnc ≤ k)) ∧
      (∃ t, exec (.encode k) s = .next t ∧
        (t.status = 0x11 ↔ s.build.nEnc ≤ k ∨ (s.encSlot k).valid = false)) ∧
      (∃ t, exec (.decNew k) s = .next t ∧ (t.status = 0x11 ↔ s.build.nDec ≤ k)) ∧
      ∃ t, exec (.decode k) s = .next t ∧ (t.status = 0x11 ↔ s.build.nDec ≤ k ∨ (s.decSlot k).valid = false)

/-- R153: what `DECODE d` answers is a function of the bytes below `PLEN`, of `PLEN`, of the slot and of the
parameters; a rejected one leaves the message as it was; and decoding the same buffer twice gives the same result
twice. -/
def Obligations.DecodeDependsOnlyOnTheBuffer : Prop :=
  (∀ (d : Nat) (s t : State), s.build = t.build → s.plen = t.plen → s.decSlot d = t.decSlot d →
      (∀ a < s.plen, s.pktByte a = t.pktByte a) →
      ∃ s' t', exec (.decode d) s = .next s' ∧ exec (.decode d) t = .next t' ∧ s'.status = t'.status ∧
        (s'.status = 0x00 → s'.msg = t'.msg) ∧ (s'.status ≠ 0x00 → s'.msg = s.msg ∧ t'.msg = t.msg)) ∧
    ∀ (d : Nat) (s s' : State), exec (.decode d) s = .next s' → exec (.decode d) s' = .next s'

/-- A rule the spec marks as derived (R157): the length field of a buffer `DECODE` accepts is `PLEN`, and so is that
of every packet `ENCODE` writes. -/
def Obligations.LengthFieldOfAValidPacketIsItsLength : Prop :=
  (∀ (d : Nat) (s : State), ∃ t, exec (.decode d) s = .next t ∧
      (t.status = 0x00 → 25 + s.build.w.bytes ≤ s.plen ∧ s.memRead (9 + s.build.w.bytes) 4 = s.plen)) ∧
    ∀ (e : Nat) (s : State), s.build.bufMax ≤ 2 ^ 31 - 1 → ∃ t, exec (.encode e) s = .next t ∧
      (t.status = 0x00 → t.memRead (9 + t.build.w.bytes) 4 = t.plen)

/-- A rule the spec marks as derived (R155): what an encoder writes, a decoder with the same key accepts, for every
serializer and cipher within the contract: from any state `u` with the packet's bytes and length in the buffer,
whatever else has happened to it, it completes with `OK` and leaves in `MSG` the message the encoder left. -/
def Obligations.DecodeOfAnEncodedPacketGivesTheMessageBack : Prop :=
  ∀ (e d : Nat) (s t u : State), s.Inv → exec (.encode e) s = .next t → t.status = 0x00 →
    u.build = s.build → u.plen = t.plen → (∀ a < t.plen, u.pktByte a = t.pktByte a) →
    u.DecReady d → (u.decSlot d).key = (s.encSlot e).key →
    exec (.decode d) u = .next { u with msg := t.msg, status := 0x00, ph := .idle, cur := 0 }

/-- A rule the spec marks as derived (R156): change one byte of a packet an encoder wrote, at any offset and to any
other value: `DECODE` rejects it, for every legal CRC variant and every cipher, changes nothing but `STATUS`, and
finds it in the phase the rule's table names. -/
def Obligations.DecodeRejectsEverySingleByteChange : Prop :=
  ∀ (e d a : Nat) (s t u : State), s.Inv → exec (.encode e) s = .next t → t.status = 0x00 →
    u.build = s.build → u.plen = t.plen → a < t.plen → u.pktByte a ≠ t.pktByte a →
    (∀ x < t.plen, x ≠ a → u.pktByte x = t.pktByte x) → u.DecReady d →
    exec (.decode d) u = .next { u with status := 0x01, ph := .idle, cur := 0 } ∧
      phasesVisited (.decode d) u =
        if a = 0 then [.d0, .d1, .d2]
        else if a < 15 + u.build.w.bytes then [.d0, .d1, .d2, .d3]
        else [.d0, .d1, .d2, .d3, .d4, .d5]

/-! ### `TST.IDRST` (R165) -/

/-- R165: in a test build `TST.IDRST` sets the identity counter to 0 and touches nothing else; in a production build it
is illegal; its one phase is `N0` and its word 0x0F00; with another `slot` the word is illegal in every build. -/
def Obligations.TstIdrstClearsTheIdentityCounter : Prop :=
  (∀ s : State, s.build.testEn = true →
      exec .tstIdrst s = .next { s with idctr := 0, status := 0x00, ph := .idle, cur := 0 }) ∧
    (∀ s : State, s.build.testEn = false →
      exec .tstIdrst s = .next { s with status := 0x10, ph := .idle, cur := 0 }) ∧
    (∀ s : State, phasesVisited .tstIdrst s = [.n0]) ∧
    encode .tstIdrst = 0x0F00 ∧
    ∀ (s : State) (w : BitVec 16) (rest : List HostAct), s.ph = .idle → s.host = .wr .cmd (.nat w.toNat) :: rest →
      w.toNat / 256 = 15 → w.toNat % 256 ≠ 0 →
      step s = .next { s with host := rest, status := 0x10, ph := .idle, cur := 0 }

/-! ### Rules about all commands -/

/-- R170: every command has a next state, in which `STATUS` holds one of the codes the table gives the command and the
sequencer is idle again; the codes are those of the table. -/
def Obligations.EveryCommandCompletesWithOneOfItsCodes : Prop :=
  (∀ (i : Instr) (s : State), ∃ t, exec i s = .next t ∧ t.status ∈ (codesOf i).map statusCode ∧
      t.status ∈ statusCodes ∧ t.ph = .idle ∧ t.cur = 0) ∧
    (statusCode .ok = 0x00 ∧ statusCode .invalidPacket = 0x01 ∧ statusCode .encodeFailure = 0x02 ∧
      statusCode .illegalCmd = 0x10 ∧ statusCode .badSlot = 0x11 ∧ statusCode .range = 0x12 ∧
      statusCode .idExhausted = 0x13 ∧ statusCode .seqExhausted = 0x14)

/-- The write columns of the table of R22: what no command, and what only some command, can write. -/
def Obligations.CommandsWriteOnlyTheirOwnRegisters : Prop :=
  ∀ (i : Instr) (s : State), ∃ t, exec i s = .next t ∧
    t.build = s.build ∧ t.off = s.off ∧ t.clen = s.clen ∧ t.keyin = s.keyin ∧ t.draw = s.draw ∧ t.host = s.host ∧
      t.reply = s.reply ∧
    (t.crc ≠ s.crc → i = .crc16 ∧ t.status = 0x00) ∧
    ((t.pkt ≠ s.pkt ∨ t.plen ≠ s.plen) → (∃ e, i = .encode e) ∧ t.status = 0x00) ∧
    ((t.msg.sid ≠ s.msg.sid ∨ t.msg.seq ≠ s.msg.seq) →
      (∃ e, i = .encode e) ∨ (∃ d, i = .decode d) ∧ t.status = 0x00) ∧
    ((t.msg.grp ≠ s.msg.grp ∨ t.msg.sub ≠ s.msg.sub ∨ t.msg.pay ≠ s.msg.pay) →
      (∃ d, i = .decode d) ∧ t.status = 0x00) ∧
    (t.idctr ≠ s.idctr → ((∃ e, i = .encNew e) ∨ i = .tstIdrst) ∧ t.status = 0x00) ∧
    (t.dec ≠ s.dec → (∃ d, i = .decNew d) ∧ t.status = 0x00) ∧
    (t.enc ≠ s.enc → ∃ e, i = .encode e ∨ i = .encNew e ∧ t.status = 0x00)

/-- A rule the spec marks as derived (R29): no encoder command reads or writes a decoder slot, and no decoder command
reads or writes the identity counter or an encoder slot. -/
def Obligations.EncoderAndDecoderStateAreDisjoint : Prop :=
  (∀ (e : Nat) (i : Instr), i = .encNew e ∨ i = .encode e ∨ i = .tstIdrst → ∀ (s : State) (x : List DecSlot),
      ∃ t, exec i s = .next t ∧ t.dec = s.dec ∧ exec i { s with dec := x } = .next { t with dec := x }) ∧
    ∀ (d : Nat) (i : Instr), i = .decNew d ∨ i = .decode d → ∀ (s : State) (x : List EncSlot) (n : Nat),
      ∃ t, exec i s = .next t ∧ t.enc = s.enc ∧ t.idctr = s.idctr ∧
        exec i { s with enc := x, idctr := n } = .next { t with enc := x, idctr := n }

/-- No command reads `STATUS`, and none depends on the phase or the cursor an earlier one left (R21, R182). -/
def Obligations.NoCommandReadsStatus : Prop :=
  ∀ (i : Instr) (s : State) (c : BitVec 8) (p : Phase) (n : Nat),
    exec i { s with status := c, ph := p, cur := n } = exec i s

/-- The phases a command goes through are the first ones of its list, in order, and all of them where it completes with
`OK`; no phase is entered twice (R23, R24). -/
def Obligations.PhasesAdvanceInOrder : Prop :=
  ∀ (i : Instr) (s : State), exec i s = .next (runOf i s).state ∧ phasesVisited i s ≠ [] ∧
    phasesVisited i s <+: phasesOf i ∧ (phasesOf i).Nodup ∧
    ((runOf i s).state.status = 0x00 → phasesVisited i s = phasesOf i)

/-- R55: each collaborator is called at most once and in the fixed order: an admitted `ENCODE` calls `SER` on the
payload and then, only if it succeeded, `ENCRYPT` on its result; an admitted `DECODE` calls `DECRYPT` on the body only
after `D1` to `D5` passed and then, only if it succeeded, `DES` on its result; nothing else calls one. -/
def Obligations.CollaboratorsAreCalledInOrder : Prop :=
  ∀ (k : Nat) (s : State),
    (callsMade .crc16 s = [] ∧ callsMade (.encNew k) s = [] ∧ callsMade (.decNew k) s = [] ∧
        callsMade .tstIdrst s = []) ∧
      (¬ s.EncReady k ∨ (s.encSlot k).seq = 2 ^ 64 → callsMade (.encode k) s = []) ∧
      (s.EncReady k → (s.encSlot k).seq ≠ 2 ^ 64 → callsMade (.encode k) s =
        .ser s.msg.pay :: (portSer s.build s.msg.pay).toList.map fun plain =>
          .encrypt (s.encSlot k).key plain) ∧
      (¬ s.DecReady k ∨ ¬ s.FrameIntact → callsMade (.decode k) s = []) ∧
      (s.DecReady k → s.FrameIntact → callsMade (.decode k) s =
        .decrypt (s.decSlot k).key s.bodyBytes ::
          (portDecrypt s.build (s.decSlot k).key s.bodyBytes).toList.map fun plain => .des plain)

/-- The counters never wrap and never fall: a command leaves `IDCTR` alone, counts one construction, or is `TST.IDRST`;
and it leaves the counter of encoder `e` alone unless it is an admitted `ENCODE e`, which counts one, or `ENC.NEW e`
(R186, R190). -/
def Obligations.CountersMoveByOneAndNeverWrap : Prop :=
  ∀ (i : Instr) (s : State), s.enc.length = s.build.nEnc → ∃ t, exec i s = .next t ∧
    (t.idctr = s.idctr ∨
      (∃ e, i = .encNew e ∧ t.status = 0x00 ∧ s.idctr ≠ 2 ^ (8 * s.build.w.bytes) ∧ t.idctr = s.idctr + 1) ∨
      (i = .tstIdrst ∧ s.build.testEn = true ∧ t.idctr = 0)) ∧
    ∀ e < s.build.nEnc,
      t.encSlot e = s.encSlot e ∨
        (i = .encode e ∧ (s.encSlot e).valid = true ∧ (s.encSlot e).seq ≠ 2 ^ 64 ∧
          t.encSlot e = { s.encSlot e with seq := (s.encSlot e).seq + 1 }) ∨
        (i = .encNew e ∧ t.status = 0x00 ∧
          t.encSlot e = { valid := true, sid := s.idctr, seq := 0, key := s.keyin })

/-! ### Invariants of every step -/

/-- The invariant of every state between commands holds in the next state, whatever the host does: the parameters do
not change, every register and counter stays in its range, `STATUS` holds one of the eight codes, the packet buffer
keeps its canonical form and stays inside its address space, and the sequencer is idle. -/
def Obligations.StepKeepsTheInvariant : Prop :=
  ∀ s t : State, s.Inv → step s = .next t → t.Inv ∧ t.build = s.build

/-- The state after reset meets the invariant, in every legal build and in every reset lifetime, the model's own reset
state among them. -/
def Obligations.ResetStateMeetsTheInvariant : Prop :=
  (∀ (b : Build) (n : Nat), b.Legal → (State.resetOf b n).Inv) ∧ State.reset.Inv

/-- A rule the spec marks as derived (R129): in a production build the identities of the constructed encoders are
pairwise distinct and every step keeps them so; the state after reset has none. -/
def Obligations.StepKeepsIdentitiesUnique : Prop :=
  (∀ s t : State, s.build.testEn = false → s.IdsUnique → step s = .next t → t.IdsUnique) ∧
    ∀ (b : Build) (n : Nat), (State.resetOf b n).IdsUnique

/-! ### Reset and the host's side -/

/-- R201: the reset transition may be taken from any state and puts every piece of state at its reset value; of `KEYIN`,
the slot fields and the packet bytes nothing is said, as the rule leaves them unspecified. -/
def Obligations.ResetPutsEveryStateElementAtItsResetValue : Prop :=
  ∀ (s : State) (rest : List HostAct), s.host = .reset :: rest →
    ∃ t, step s = .next t ∧ t.build = s.build ∧ t.idctr = 0 ∧
      (t.enc.length = s.build.nEnc ∧ ∀ x ∈ t.enc, x.valid = false) ∧
      (t.dec.length = s.build.nDec ∧ ∀ x ∈ t.dec, x.valid = false) ∧
      t.ph = .idle ∧ t.cur = 0 ∧ t.status = 0x00 ∧ t.plen = 0 ∧ t.off = 0 ∧ t.clen = 0 ∧ t.crc = 0 ∧
      t.msg = { sid := 0, seq := 0, grp := 0, sub := 0, pay := none }

/-- R32: the state after reset, in any build and in the model's `State.reset`, has the reset values of the table; of
`KEYIN`, the slot fields and the packet bytes nothing is said, as the table leaves them unspecified. -/
def Obligations.ResetStateHoldsTheStatedValues : Prop :=
  ∀ (b : Build) (n : Nat) (s : State), s = State.resetOf b n ∨ s = State.reset →
    s.idctr = 0 ∧ (∀ e, (s.encSlot e).valid = false) ∧ (∀ d, (s.decSlot d).valid = false) ∧
      s.ph = .idle ∧ s.cur = 0 ∧ s.status = 0x00 ∧ s.plen = 0 ∧ s.off = 0 ∧ s.clen = 0 ∧ s.crc = 0 ∧
      s.msg.sid = 0 ∧ s.msg.seq = 0 ∧ s.msg.grp = 0 ∧ s.msg.sub = 0 ∧ s.msg.pay = none

/-- A host read of each of the ten readable registers returns what the register holds, the tags as signed numbers, a read
of the buffer returns its bytes, and neither changes anything in the block; the write-only registers are not read (R11 to
R21, R46, R195); and with no host action to come nothing happens (R202). That a forbidden read is refused, the field that
holds the reply, and the list of host actions are the model's choices (logs 11, 10, 9). -/
def Obligations.HostReadsChangeNothing : Prop :=
  (∀ (s : State) (rest : List HostAct), s.ph = .idle →
    (∀ x ∈ [(HostReg.off, HostVal.nat s.off.toNat), (.clen, .nat s.clen.toNat), (.crc, .nat s.crc.toNat),
          (.sid, .nat s.msg.sid), (.seq, .nat s.msg.seq.toNat), (.grp, .int s.msg.grp.toInt),
          (.sub, .int s.msg.sub.toInt), (.pay, .payload s.msg.pay), (.plen, .nat s.plen),
          (.status, .nat s.status.toNat)],
        s.host = .rd x.1 :: rest → step s = .next { s with host := rest, reply := some x.2 }) ∧
      (∀ off n : Nat, s.host = .rdpkt off n :: rest → off + n ≤ s.build.bufMax →
        step s = .next { s with host := rest, reply := some (.bytes (s.memReadBytes off n)) }) ∧
      (∀ r : HostReg, s.host = .rd r :: rest →
        (step s = .refused (.hostReadForbidden r) ↔ r = .keyin ∨ r = .cmd))) ∧
    ∀ s : State, s.host = [] → step s = .next s

/-- A host write lands in the register it names and nowhere else, and a write to the buffer changes exactly the bytes
it names (R11 to R20, R194); the read-only registers `CRC` and `STATUS` are not written (that such a write is refused
is the model's choice, log 11). -/
def Obligations.HostWritesLandWhereTheyAreAddressed : Prop :=
  ∀ (s : State) (rest : List HostAct), s.ph = .idle →
    (∀ n < 2 ^ 32, s.host = .wr .off (.nat n) :: rest →
        step s = .next { s with host := rest, off := BitVec.ofNat 32 n }) ∧
      (∀ n < 2 ^ 32, s.host = .wr .clen (.nat n) :: rest →
        step s = .next { s with host := rest, clen := BitVec.ofNat 32 n }) ∧
      (∀ n < 2 ^ (8 * s.build.w.bytes), s.host = .wr .sid (.nat n) :: rest →
        step s = .next { s with host := rest, msg := { s.msg with sid := n } }) ∧
      (∀ n < 2 ^ 64, s.host = .wr .seq (.nat n) :: rest →
        step s = .next { s with host := rest, msg := { s.msg with seq := BitVec.ofNat 64 n } }) ∧
      (∀ i : Int, -2 ^ 31 ≤ i → i < 2 ^ 31 → s.host = .wr .grp (.int i) :: rest →
        ∃ t, step s = .next t ∧ t.msg.grp.toInt = i ∧ t = { s with host := rest, msg := { s.msg with grp := t.msg.grp } }) ∧
      (∀ i : Int, -2 ^ 31 ≤ i → i < 2 ^ 31 → s.host = .wr .sub (.int i) :: rest →
        ∃ t, step s = .next t ∧ t.msg.sub.toInt = i ∧ t = { s with host := rest, msg := { s.msg with sub := t.msg.sub } }) ∧
      (∀ p : Option Payload, p.all (payloadHasType s.build.payload) = true → s.host = .wr .pay (.payload p) :: rest →
        step s = .next { s with host := rest, msg := { s.msg with pay := p } }) ∧
      (∀ k : Bytes, k.length = s.build.keyLen → s.host = .wr .keyin (.bytes k) :: rest →
        step s = .next { s with host := rest, keyin := k }) ∧
      (∀ n ≤ s.build.bufMax, s.host = .wr .plen (.nat n) :: rest →
        step s = .next { s with host := rest, plen := n }) ∧
      (∀ (off : Nat) (b : Bytes), off + b.length ≤ s.build.bufMax → s.host = .wrpkt off b :: rest →
        ∃ t, step s = .next t ∧ t = { s with host := rest, pkt := t.pkt } ∧ t.memReadBytes off b.length = b ∧
          ∀ a, a < off ∨ off + b.length ≤ a → t.pktByte a = s.pktByte a) ∧
      ∀ (r : HostReg) (v : HostVal), r = .crc ∨ r = .status → s.host = .wr r v :: rest →
        step s = .refused (.hostWriteForbidden r)

/-- The pseudo-commands as 30_encoding.md gives them (R84): each of the five is its loads, its command and its reads,
the later reads only after `OK`; what it answers is what these registers and bytes hold after the command; and a `bytes`
argument longer than `BUF_MAX` is answered as a rejected packet, with no command issued and nothing changed. Each
argument is one its register has a code for, and each slot index has a command word (the others: the next statement).
What holds the replies, and the form of the answer, are the model's choices (logs 10 and 24). -/
def Obligations.PseudoCommandsRunTheirExpansions : Prop :=
  (∀ (s : State) (bytes : Bytes) (offset length : Nat), s.ph = .idle → bytes.length ≤ s.build.bufMax →
      offset < 2 ^ 32 → length < 2 ^ 32 →
      ∃ t, exec .crc16 { s with pkt := Memory.setBytes s.pkt 0 bytes, plen := bytes.length
                                off := BitVec.ofNat 32 offset, clen := BitVec.ofNat 32 length } = .next t ∧
        pseudoCrc16 bytes offset length s =
          .next ({ t with reply := some (.nat t.crc.toNat) }, .reads [.nat t.status.toNat, .nat t.crc.toNat])) ∧
    (∀ (s : State) (e : Nat) (grp sub : Int) (pay : Option Payload), s.ph = .idle → e < 256 →
      -2 ^ 31 ≤ grp → grp < 2 ^ 31 → -2 ^ 31 ≤ sub → sub < 2 ^ 31 →
      pay.all (payloadHasType s.build.payload) = true →
      ∃ t, exec (.encode e) { s with msg := { s.msg with grp := BitVec.ofInt 32 grp, sub := BitVec.ofInt 32 sub
                                                         pay := pay } } = .next t ∧
        pseudoEncode e grp sub pay s =
          if t.status = 0x00 then
            .next ({ t with reply := some (.nat t.msg.seq.toNat) },
              .reads [.nat 0, .nat t.plen, .bytes (t.memReadBytes 0 t.plen), .nat t.msg.sid, .nat t.msg.seq.toNat])
          else .next ({ t with reply := some (.nat t.status.toNat) }, .reads [.nat t.status.toNat])) ∧
    (∀ (s : State) (d : Nat) (bytes : Bytes), s.ph = .idle → d < 256 → bytes.length ≤ s.build.bufMax →
      ∃ t, exec (.decode d) { s with pkt := Memory.setBytes s.pkt 0 bytes, plen := bytes.length } = .next t ∧
        pseudoDecode d bytes s =
          if t.status = 0x00 then
            .next ({ t with reply := some (.payload t.msg.pay) },
              .reads [.nat 0, .nat t.msg.sid, .nat t.msg.seq.toNat, .int t.msg.grp.toInt, .int t.msg.sub.toInt,
                .payload t.msg.pay])
          else .next ({ t with reply := some (.nat t.status.toNat) }, .reads [.nat t.status.toNat])) ∧
    (∀ (s : State) (k : Nat) (key : Bytes), s.ph = .idle → k < 256 → key.length = s.build.keyLen →
      (∃ t, exec (.encNew k) { s with keyin := key } = .next t ∧
        pseudoNewEncoder k key s =
          .next ({ t with reply := some (.nat t.status.toNat) }, .reads [.nat t.status.toNat])) ∧
        ∃ t, exec (.decNew k) { s with keyin := key } = .next t ∧
          pseudoNewDecoder k key s =
            .next ({ t with reply := some (.nat t.status.toNat) }, .reads [.nat t.status.toNat])) ∧
    ∀ (s : State) (bytes : Bytes), s.build.bufMax < bytes.length →
      (∀ offset length, pseudoCrc16 bytes offset length s = .next (s, .rejectedPacket)) ∧
        ∀ d, pseudoDecode d bytes s = .next (s, .rejectedPacket)

/-- The model's choice (log 24): a pseudo-command whose slot index does not fit the 8-bit `slot` field (R77), so that the
spec has no command word for it, is refused, whatever its other arguments; a decode of bytes longer than `BUF_MAX` is a
rejected packet before that. -/
def Obligations.PseudoCommandsRefuseSlotsWithoutAWord : Prop :=
  ∀ (s : State) (k : Nat), 256 ≤ k →
    (∀ (grp sub : Int) (pay : Option Payload), pseudoEncode k grp sub pay s = .refused (.hostValueUnfit .cmd)) ∧
      (∀ bytes : Bytes, pseudoDecode k bytes s =
        if s.build.bufMax < bytes.length then .next (s, .rejectedPacket) else .refused (.hostValueUnfit .cmd)) ∧
      ∀ key : Bytes, pseudoNewEncoder k key s = .refused (.hostValueUnfit .cmd) ∧
        pseudoNewDecoder k key s = .refused (.hostValueUnfit .cmd)
end

