-- ==== Sys2Proof/Laws/Bytes.lean ====
section
/-! SUPPORT. Byte strings and numbers: what `be` and `ube` do to each other (R8, R42). -/

namespace Sys2Proof.Machine

@[simp] theorem be_length (n v : Nat) : (be n v).length = n := by simp [be]

/-- The most significant byte comes first. -/
theorem be_succ (n v : Nat) : be (n + 1) v = BitVec.ofNat 8 (v >>> (8 * n)) :: be n v := by
  simp only [be, List.range_succ_eq_map, List.map_cons, List.map_map]
  refine congrArg₂ _ (by simp) (List.map_congr_left fun i _ => ?_)
  simp only [Function.comp_apply, Nat.succ_eq_add_one]
  congr 3
  omega

@[simp] theorem be_zero (v : Nat) : be 0 v = [] := rfl

/-- Byte `i` of `be n v` (R8). -/
theorem be_getElem (n v i : Nat) (h : i < (be n v).length) :
    (be n v)[i] = BitVec.ofNat 8 (v >>> (8 * (n - 1 - i))) := by
  simp [be]

@[simp] theorem ube_nil : ube [] = 0 := rfl

theorem ube_cons (b : Byte) (s : Bytes) : ube (b :: s) = b.toNat * 2 ^ (8 * s.length) + ube s := rfl

/-- A byte string of `n` bytes spells a number below `2^(8n)`. -/
theorem ube_lt (s : Bytes) : ube s < 2 ^ (8 * s.length) := by
  induction s with
  | nil => simp
  | cons b s ih =>
    have hb : b.toNat < 2 ^ 8 := b.isLt
    have hp : 2 ^ (8 * (b :: s).length) = 2 ^ 8 * 2 ^ (8 * s.length) := by
      rw [← Nat.pow_add]; congr 1; simp only [List.length_cons]; omega
    rw [ube_cons, hp]
    calc b.toNat * 2 ^ (8 * s.length) + ube s < b.toNat * 2 ^ (8 * s.length) + 2 ^ (8 * s.length) := by omega
      _ = (b.toNat + 1) * 2 ^ (8 * s.length) := by ring
      _ ≤ 2 ^ 8 * 2 ^ (8 * s.length) := Nat.mul_le_mul_right _ (by omega)

/-- Writing a number big-endian and reading it back keeps its low `8n` bits. -/
theorem ube_be_mod (n v : Nat) : ube (be n v) = v % 2 ^ (8 * n) := by
  induction n with
  | zero => simp [Nat.mod_one]
  | succ n ih =>
    rw [be_succ, ube_cons, be_length, ih, BitVec.toNat_ofNat, Nat.shiftRight_eq_div_pow]
    have h : 2 ^ (8 * (n + 1)) = 2 ^ (8 * n) * 2 ^ 8 := by rw [← Nat.pow_add]; congr 1
    rw [h, Nat.mod_mul, Nat.mul_comm (2 ^ (8 * n)) (v / 2 ^ (8 * n) % 2 ^ 8)]
    omega

/-- A number that fits comes back whole. -/
theorem ube_be (n v : Nat) (h : v < 2 ^ (8 * n)) : ube (be n v) = v := by
  rw [ube_be_mod, Nat.mod_eq_of_lt h]

end Sys2Proof.Machine
end

