-- ==== Sys2Proof/Laws/Collab.lean ====
section
/-! SUPPORT. What the two ports with a law to keep can answer, each said once (R106 to R110). -/

namespace Sys2Proof.Machine

/-- `DES` answers a payload exactly where the attached deserializer does and the payload has the build's type. -/
theorem portDes_eq_some_iff (b : Build) (s : Bytes) (p : Payload) :
    portDes b s = some p ↔ attachedDes b.collab s = some p ∧ payloadHasType b.payload p = true := by
  simp [portDes, Option.filter_eq_some_iff]

/-- `SER` answers bytes exactly where the attached serializer does and the attached deserializer undoes it. -/
theorem portSer_eq_some_iff (b : Build) (p : Option Payload) (s : Bytes) :
    portSer b p = some s ↔ ∃ v, p = some v ∧ attachedSer b.collab v = some s ∧ portDes b s = some v := by
  cases p with
  | none => simp [portSer]
  | some v => simp [portSer, Option.filter_eq_some_iff]

/-- `ENCRYPT` answers bytes exactly where the attached encryptor does and the attached decryptor undoes it. -/
theorem portEncrypt_eq_some_iff (b : Build) (k s t : Bytes) :
    portEncrypt b k s = some t ↔ attachedEncrypt b.collab k s = some t ∧ portDecrypt b k t = some s := by
  simp [portEncrypt, Option.filter_eq_some_iff]

end Sys2Proof.Machine
end

