-- ==== Sys2Proof/Laws/Encoding.lean ====
section
/-! SUPPORT. The two fields of a command word (R77): what the decoder's slices read, as numbers and out of a word put
together by the encoder. -/

namespace Sys2Proof

theorem opOf_toNat (w : BitVec 16) : (opOf w).toNat = w.toNat / 256 := by
  have h := w.isLt
  simp only [opOf, BitVec.extractLsb'_toNat, Nat.shiftRight_eq_div_pow]
  omega

theorem slotOf_toNat (w : BitVec 16) : (slotOf w).toNat = w.toNat % 256 := by
  simp only [slotOf, BitVec.extractLsb'_toNat, Nat.shiftRight_eq_div_pow]
  omega

/-- A word as a number: `op` in the high byte, `slot` in the low byte. -/
theorem append_toNat (op slot : BitVec 8) : (op ++ slot : BitVec 16).toNat = op.toNat * 256 + slot.toNat := by
  rw [BitVec.toNat_append, Nat.shiftLeft_eq, Nat.mul_comm, ← Nat.two_pow_add_eq_or_of_lt (by exact slot.isLt)]

theorem opOf_append (op slot : BitVec 8) : opOf (op ++ slot) = op := by
  apply BitVec.eq_of_toNat_eq
  have := slot.isLt
  rw [opOf_toNat, append_toNat]
  omega

theorem slotOf_append (op slot : BitVec 8) : slotOf (op ++ slot) = slot := by
  apply BitVec.eq_of_toNat_eq
  have := slot.isLt
  rw [slotOf_toNat, append_toNat]
  omega

/-- A word is its two fields. -/
theorem opOf_append_slotOf (w : BitVec 16) : opOf w ++ slotOf w = w := by
  apply BitVec.eq_of_toNat_eq
  rw [append_toNat, opOf_toNat, slotOf_toNat]
  omega

end Sys2Proof
end

