-- ==== Sys2Proof/Laws/Host.lean ====
section
/-! SUPPORT. What a step does, by the host's next action (R50, R51, R54, R200, R202). -/

namespace Sys2Proof.Machine

/-- With no host action to come, nothing happens. -/
theorem step_of_nil (s : State) (h : s.host = []) : step s = .next s := by
  simp only [step, stepHost, h]

/-- Between commands the host's next action happens, on the state without it. -/
theorem step_of_idle (s : State) (a : HostAct) (rest : List HostAct) (h : s.host = a :: rest) (hp : s.ph = .idle) :
    step s = hostAct a (s.setHost rest) := by
  cases a <;> simp [step, stepHost, h, hostMayAct, hp]

/-- The reset transition happens from every state. -/
theorem step_of_reset (s : State) (rest : List HostAct) (h : s.host = .reset :: rest) :
    step s = .next (s.setHost rest).hardReset := by
  simp [step, stepHost, h, hostMayAct, hostAct]

/-- A command word the host writes is issued. -/
theorem hostWrite_cmd (w : BitVec 16) (s : State) : hostWrite .cmd (.nat w.toNat) s = issue w s := by
  simp [hostWrite, BitVec.ofNat_toNat, w.isLt]

/-- A word that is a command runs it; any other completes with `ILLEGAL_CMD`. -/
theorem issue_of_ok (w : BitVec 16) (i : Instr) (s : State) (h : decode w = .ok i) : issue w s = exec i s := by
  simp only [issue, h]

theorem issue_of_error (w : BitVec 16) (e : DecodeError) (s : State) (h : decode w = .error e) :
    issue w s = .next s.illegalCommand := by
  simp only [issue, h]

end Sys2Proof.Machine
end

