-- ==== Sys2Proof/Laws/State.lean ====
section
/-! SUPPORT. The state record: what each update leaves in each field, and what the steps of a command's run leave in the
run. -/

namespace Sys2Proof.Machine

variable (s : State)

/-! ### `State.setOff` -/

@[simp] theorem State.setOff_build (v : BitVec 32) : (s.setOff v).build = s.build := rfl
@[simp] theorem State.setOff_off (v : BitVec 32) : (s.setOff v).off = v := rfl
@[simp] theorem State.setOff_clen (v : BitVec 32) : (s.setOff v).clen = s.clen := rfl
@[simp] theorem State.setOff_crc (v : BitVec 32) : (s.setOff v).crc = s.crc := rfl
@[simp] theorem State.setOff_msg (v : BitVec 32) : (s.setOff v).msg = s.msg := rfl
@[simp] theorem State.setOff_keyin (v : BitVec 32) : (s.setOff v).keyin = s.keyin := rfl
@[simp] theorem State.setOff_plen (v : BitVec 32) : (s.setOff v).plen = s.plen := rfl
@[simp] theorem State.setOff_status (v : BitVec 32) : (s.setOff v).status = s.status := rfl
@[simp] theorem State.setOff_ph (v : BitVec 32) : (s.setOff v).ph = s.ph := rfl
@[simp] theorem State.setOff_cur (v : BitVec 32) : (s.setOff v).cur = s.cur := rfl
@[simp] theorem State.setOff_pkt (v : BitVec 32) : (s.setOff v).pkt = s.pkt := rfl
@[simp] theorem State.setOff_idctr (v : BitVec 32) : (s.setOff v).idctr = s.idctr := rfl
@[simp] theorem State.setOff_enc (v : BitVec 32) : (s.setOff v).enc = s.enc := rfl
@[simp] theorem State.setOff_dec (v : BitVec 32) : (s.setOff v).dec = s.dec := rfl
@[simp] theorem State.setOff_draw (v : BitVec 32) : (s.setOff v).draw = s.draw := rfl
@[simp] theorem State.setOff_host (v : BitVec 32) : (s.setOff v).host = s.host := rfl
@[simp] theorem State.setOff_reply (v : BitVec 32) : (s.setOff v).reply = s.reply := rfl

/-! ### `State.setClen` -/

@[simp] theorem State.setClen_build (v : BitVec 32) : (s.setClen v).build = s.build := rfl
@[simp] theorem State.setClen_off (v : BitVec 32) : (s.setClen v).off = s.off := rfl
@[simp] theorem State.setClen_clen (v : BitVec 32) : (s.setClen v).clen = v := rfl
@[simp] theorem State.setClen_crc (v : BitVec 32) : (s.setClen v).crc = s.crc := rfl
@[simp] theorem State.setClen_msg (v : BitVec 32) : (s.setClen v).msg = s.msg := rfl
@[simp] theorem State.setClen_keyin (v : BitVec 32) : (s.setClen v).keyin = s.keyin := rfl
@[simp] theorem State.setClen_plen (v : BitVec 32) : (s.setClen v).plen = s.plen := rfl
@[simp] theorem State.setClen_status (v : BitVec 32) : (s.setClen v).status = s.status := rfl
@[simp] theorem State.setClen_ph (v : BitVec 32) : (s.setClen v).ph = s.ph := rfl
@[simp] theorem State.setClen_cur (v : BitVec 32) : (s.setClen v).cur = s.cur := rfl
@[simp] theorem State.setClen_pkt (v : BitVec 32) : (s.setClen v).pkt = s.pkt := rfl
@[simp] theorem State.setClen_idctr (v : BitVec 32) : (s.setClen v).idctr = s.idctr := rfl
@[simp] theorem State.setClen_enc (v : BitVec 32) : (s.setClen v).enc = s.enc := rfl
@[simp] theorem State.setClen_dec (v : BitVec 32) : (s.setClen v).dec = s.dec := rfl
@[simp] theorem State.setClen_draw (v : BitVec 32) : (s.setClen v).draw = s.draw := rfl
@[simp] theorem State.setClen_host (v : BitVec 32) : (s.setClen v).host = s.host := rfl
@[simp] theorem State.setClen_reply (v : BitVec 32) : (s.setClen v).reply = s.reply := rfl

/-! ### `State.setCrc` -/

@[simp] theorem State.setCrc_build (v : BitVec 16) : (s.setCrc v).build = s.build := rfl
@[simp] theorem State.setCrc_off (v : BitVec 16) : (s.setCrc v).off = s.off := rfl
@[simp] theorem State.setCrc_clen (v : BitVec 16) : (s.setCrc v).clen = s.clen := rfl
@[simp] theorem State.setCrc_crc (v : BitVec 16) : (s.setCrc v).crc = v := rfl
@[simp] theorem State.setCrc_msg (v : BitVec 16) : (s.setCrc v).msg = s.msg := rfl
@[simp] theorem State.setCrc_keyin (v : BitVec 16) : (s.setCrc v).keyin = s.keyin := rfl
@[simp] theorem State.setCrc_plen (v : BitVec 16) : (s.setCrc v).plen = s.plen := rfl
@[simp] theorem State.setCrc_status (v : BitVec 16) : (s.setCrc v).status = s.status := rfl
@[simp] theorem State.setCrc_ph (v : BitVec 16) : (s.setCrc v).ph = s.ph := rfl
@[simp] theorem State.setCrc_cur (v : BitVec 16) : (s.setCrc v).cur = s.cur := rfl
@[simp] theorem State.setCrc_pkt (v : BitVec 16) : (s.setCrc v).pkt = s.pkt := rfl
@[simp] theorem State.setCrc_idctr (v : BitVec 16) : (s.setCrc v).idctr = s.idctr := rfl
@[simp] theorem State.setCrc_enc (v : BitVec 16) : (s.setCrc v).enc = s.enc := rfl
@[simp] theorem State.setCrc_dec (v : BitVec 16) : (s.setCrc v).dec = s.dec := rfl
@[simp] theorem State.setCrc_draw (v : BitVec 16) : (s.setCrc v).draw = s.draw := rfl
@[simp] theorem State.setCrc_host (v : BitVec 16) : (s.setCrc v).host = s.host := rfl
@[simp] theorem State.setCrc_reply (v : BitVec 16) : (s.setCrc v).reply = s.reply := rfl

/-! ### `State.setMsg` -/

@[simp] theorem State.setMsg_build (v : Msg) : (s.setMsg v).build = s.build := rfl
@[simp] theorem State.setMsg_off (v : Msg) : (s.setMsg v).off = s.off := rfl
@[simp] theorem State.setMsg_clen (v : Msg) : (s.setMsg v).clen = s.clen := rfl
@[simp] theorem State.setMsg_crc (v : Msg) : (s.setMsg v).crc = s.crc := rfl
@[simp] theorem State.setMsg_msg (v : Msg) : (s.setMsg v).msg = v := rfl
@[simp] theorem State.setMsg_keyin (v : Msg) : (s.setMsg v).keyin = s.keyin := rfl
@[simp] theorem State.setMsg_plen (v : Msg) : (s.setMsg v).plen = s.plen := rfl
@[simp] theorem State.setMsg_status (v : Msg) : (s.setMsg v).status = s.status := rfl
@[simp] theorem State.setMsg_ph (v : Msg) : (s.setMsg v).ph = s.ph := rfl
@[simp] theorem State.setMsg_cur (v : Msg) : (s.setMsg v).cur = s.cur := rfl
@[simp] theorem State.setMsg_pkt (v : Msg) : (s.setMsg v).pkt = s.pkt := rfl
@[simp] theorem State.setMsg_idctr (v : Msg) : (s.setMsg v).idctr = s.idctr := rfl
@[simp] theorem State.setMsg_enc (v : Msg) : (s.setMsg v).enc = s.enc := rfl
@[simp] theorem State.setMsg_dec (v : Msg) : (s.setMsg v).dec = s.dec := rfl
@[simp] theorem State.setMsg_draw (v : Msg) : (s.setMsg v).draw = s.draw := rfl
@[simp] theorem State.setMsg_host (v : Msg) : (s.setMsg v).host = s.host := rfl
@[simp] theorem State.setMsg_reply (v : Msg) : (s.setMsg v).reply = s.reply := rfl

/-! ### `State.setKeyin` -/

@[simp] theorem State.setKeyin_build (v : Bytes) : (s.setKeyin v).build = s.build := rfl
@[simp] theorem State.setKeyin_off (v : Bytes) : (s.setKeyin v).off = s.off := rfl
@[simp] theorem State.setKeyin_clen (v : Bytes) : (s.setKeyin v).clen = s.clen := rfl
@[simp] theorem State.setKeyin_crc (v : Bytes) : (s.setKeyin v).crc = s.crc := rfl
@[simp] theorem State.setKeyin_msg (v : Bytes) : (s.setKeyin v).msg = s.msg := rfl
@[simp] theorem State.setKeyin_keyin (v : Bytes) : (s.setKeyin v).keyin = v := rfl
@[simp] theorem State.setKeyin_plen (v : Bytes) : (s.setKeyin v).plen = s.plen := rfl
@[simp] theorem State.setKeyin_status (v : Bytes) : (s.setKeyin v).status = s.status := rfl
@[simp] theorem State.setKeyin_ph (v : Bytes) : (s.setKeyin v).ph = s.ph := rfl
@[simp] theorem State.setKeyin_cur (v : Bytes) : (s.setKeyin v).cur = s.cur := rfl
@[simp] theorem State.setKeyin_pkt (v : Bytes) : (s.setKeyin v).pkt = s.pkt := rfl
@[simp] theorem State.setKeyin_idctr (v : Bytes) : (s.setKeyin v).idctr = s.idctr := rfl
@[simp] theorem State.setKeyin_enc (v : Bytes) : (s.setKeyin v).enc = s.enc := rfl
@[simp] theorem State.setKeyin_dec (v : Bytes) : (s.setKeyin v).dec = s.dec := rfl
@[simp] theorem State.setKeyin_draw (v : Bytes) : (s.setKeyin v).draw = s.draw := rfl
@[simp] theorem State.setKeyin_host (v : Bytes) : (s.setKeyin v).host = s.host := rfl
@[simp] theorem State.setKeyin_reply (v : Bytes) : (s.setKeyin v).reply = s.reply := rfl

/-! ### `State.setPlen` -/

@[simp] theorem State.setPlen_build (v : Nat) : (s.setPlen v).build = s.build := rfl
@[simp] theorem State.setPlen_off (v : Nat) : (s.setPlen v).off = s.off := rfl
@[simp] theorem State.setPlen_clen (v : Nat) : (s.setPlen v).clen = s.clen := rfl
@[simp] theorem State.setPlen_crc (v : Nat) : (s.setPlen v).crc = s.crc := rfl
@[simp] theorem State.setPlen_msg (v : Nat) : (s.setPlen v).msg = s.msg := rfl
@[simp] theorem State.setPlen_keyin (v : Nat) : (s.setPlen v).keyin = s.keyin := rfl
@[simp] theorem State.setPlen_plen (v : Nat) : (s.setPlen v).plen = v := rfl
@[simp] theorem State.setPlen_status (v : Nat) : (s.setPlen v).status = s.status := rfl
@[simp] theorem State.setPlen_ph (v : Nat) : (s.setPlen v).ph = s.ph := rfl
@[simp] theorem State.setPlen_cur (v : Nat) : (s.setPlen v).cur = s.cur := rfl
@[simp] theorem State.setPlen_pkt (v : Nat) : (s.setPlen v).pkt = s.pkt := rfl
@[simp] theorem State.setPlen_idctr (v : Nat) : (s.setPlen v).idctr = s.idctr := rfl
@[simp] theorem State.setPlen_enc (v : Nat) : (s.setPlen v).enc = s.enc := rfl
@[simp] theorem State.setPlen_dec (v : Nat) : (s.setPlen v).dec = s.dec := rfl
@[simp] theorem State.setPlen_draw (v : Nat) : (s.setPlen v).draw = s.draw := rfl
@[simp] theorem State.setPlen_host (v : Nat) : (s.setPlen v).host = s.host := rfl
@[simp] theorem State.setPlen_reply (v : Nat) : (s.setPlen v).reply = s.reply := rfl

/-! ### `State.setStatus` -/

@[simp] theorem State.setStatus_build (v : BitVec 8) : (s.setStatus v).build = s.build := rfl
@[simp] theorem State.setStatus_off (v : BitVec 8) : (s.setStatus v).off = s.off := rfl
@[simp] theorem State.setStatus_clen (v : BitVec 8) : (s.setStatus v).clen = s.clen := rfl
@[simp] theorem State.setStatus_crc (v : BitVec 8) : (s.setStatus v).crc = s.crc := rfl
@[simp] theorem State.setStatus_msg (v : BitVec 8) : (s.setStatus v).msg = s.msg := rfl
@[simp] theorem State.setStatus_keyin (v : BitVec 8) : (s.setStatus v).keyin = s.keyin := rfl
@[simp] theorem State.setStatus_plen (v : BitVec 8) : (s.setStatus v).plen = s.plen := rfl
@[simp] theorem State.setStatus_status (v : BitVec 8) : (s.setStatus v).status = v := rfl
@[simp] theorem State.setStatus_ph (v : BitVec 8) : (s.setStatus v).ph = s.ph := rfl
@[simp] theorem State.setStatus_cur (v : BitVec 8) : (s.setStatus v).cur = s.cur := rfl
@[simp] theorem State.setStatus_pkt (v : BitVec 8) : (s.setStatus v).pkt = s.pkt := rfl
@[simp] theorem State.setStatus_idctr (v : BitVec 8) : (s.setStatus v).idctr = s.idctr := rfl
@[simp] theorem State.setStatus_enc (v : BitVec 8) : (s.setStatus v).enc = s.enc := rfl
@[simp] theorem State.setStatus_dec (v : BitVec 8) : (s.setStatus v).dec = s.dec := rfl
@[simp] theorem State.setStatus_draw (v : BitVec 8) : (s.setStatus v).draw = s.draw := rfl
@[simp] theorem State.setStatus_host (v : BitVec 8) : (s.setStatus v).host = s.host := rfl
@[simp] theorem State.setStatus_reply (v : BitVec 8) : (s.setStatus v).reply = s.reply := rfl

/-! ### `State.setPh` -/

@[simp] theorem State.setPh_build (v : Phase) : (s.setPh v).build = s.build := rfl
@[simp] theorem State.setPh_off (v : Phase) : (s.setPh v).off = s.off := rfl
@[simp] theorem State.setPh_clen (v : Phase) : (s.setPh v).clen = s.clen := rfl
@[simp] theorem State.setPh_crc (v : Phase) : (s.setPh v).crc = s.crc := rfl
@[simp] theorem State.setPh_msg (v : Phase) : (s.setPh v).msg = s.msg := rfl
@[simp] theorem State.setPh_keyin (v : Phase) : (s.setPh v).keyin = s.keyin := rfl
@[simp] theorem State.setPh_plen (v : Phase) : (s.setPh v).plen = s.plen := rfl
@[simp] theorem State.setPh_status (v : Phase) : (s.setPh v).status = s.status := rfl
@[simp] theorem State.setPh_ph (v : Phase) : (s.setPh v).ph = v := rfl
@[simp] theorem State.setPh_cur (v : Phase) : (s.setPh v).cur = s.cur := rfl
@[simp] theorem State.setPh_pkt (v : Phase) : (s.setPh v).pkt = s.pkt := rfl
@[simp] theorem State.setPh_idctr (v : Phase) : (s.setPh v).idctr = s.idctr := rfl
@[simp] theorem State.setPh_enc (v : Phase) : (s.setPh v).enc = s.enc := rfl
@[simp] theorem State.setPh_dec (v : Phase) : (s.setPh v).dec = s.dec := rfl
@[simp] theorem State.setPh_draw (v : Phase) : (s.setPh v).draw = s.draw := rfl
@[simp] theorem State.setPh_host (v : Phase) : (s.setPh v).host = s.host := rfl
@[simp] theorem State.setPh_reply (v : Phase) : (s.setPh v).reply = s.reply := rfl

/-! ### `State.setCur` -/

@[simp] theorem State.setCur_build (v : Nat) : (s.setCur v).build = s.build := rfl
@[simp] theorem State.setCur_off (v : Nat) : (s.setCur v).off = s.off := rfl
@[simp] theorem State.setCur_clen (v : Nat) : (s.setCur v).clen = s.clen := rfl
@[simp] theorem State.setCur_crc (v : Nat) : (s.setCur v).crc = s.crc := rfl
@[simp] theorem State.setCur_msg (v : Nat) : (s.setCur v).msg = s.msg := rfl
@[simp] theorem State.setCur_keyin (v : Nat) : (s.setCur v).keyin = s.keyin := rfl
@[simp] theorem State.setCur_plen (v : Nat) : (s.setCur v).plen = s.plen := rfl
@[simp] theorem State.setCur_status (v : Nat) : (s.setCur v).status = s.status := rfl
@[simp] theorem State.setCur_ph (v : Nat) : (s.setCur v).ph = s.ph := rfl
@[simp] theorem State.setCur_cur (v : Nat) : (s.setCur v).cur = v := rfl
@[simp] theorem State.setCur_pkt (v : Nat) : (s.setCur v).pkt = s.pkt := rfl
@[simp] theorem State.setCur_idctr (v : Nat) : (s.setCur v).idctr = s.idctr := rfl
@[simp] theorem State.setCur_enc (v : Nat) : (s.setCur v).enc = s.enc := rfl
@[simp] theorem State.setCur_dec (v : Nat) : (s.setCur v).dec = s.dec := rfl
@[simp] theorem State.setCur_draw (v : Nat) : (s.setCur v).draw = s.draw := rfl
@[simp] theorem State.setCur_host (v : Nat) : (s.setCur v).host = s.host := rfl
@[simp] theorem State.setCur_reply (v : Nat) : (s.setCur v).reply = s.reply := rfl

/-! ### `State.setPkt` -/

@[simp] theorem State.setPkt_build (v : Memory) : (s.setPkt v).build = s.build := rfl
@[simp] theorem State.setPkt_off (v : Memory) : (s.setPkt v).off = s.off := rfl
@[simp] theorem State.setPkt_clen (v : Memory) : (s.setPkt v).clen = s.clen := rfl
@[simp] theorem State.setPkt_crc (v : Memory) : (s.setPkt v).crc = s.crc := rfl
@[simp] theorem State.setPkt_msg (v : Memory) : (s.setPkt v).msg = s.msg := rfl
@[simp] theorem State.setPkt_keyin (v : Memory) : (s.setPkt v).keyin = s.keyin := rfl
@[simp] theorem State.setPkt_plen (v : Memory) : (s.setPkt v).plen = s.plen := rfl
@[simp] theorem State.setPkt_status (v : Memory) : (s.setPkt v).status = s.status := rfl
@[simp] theorem State.setPkt_ph (v : Memory) : (s.setPkt v).ph = s.ph := rfl
@[simp] theorem State.setPkt_cur (v : Memory) : (s.setPkt v).cur = s.cur := rfl
@[simp] theorem State.setPkt_pkt (v : Memory) : (s.setPkt v).pkt = v := rfl
@[simp] theorem State.setPkt_idctr (v : Memory) : (s.setPkt v).idctr = s.idctr := rfl
@[simp] theorem State.setPkt_enc (v : Memory) : (s.setPkt v).enc = s.enc := rfl
@[simp] theorem State.setPkt_dec (v : Memory) : (s.setPkt v).dec = s.dec := rfl
@[simp] theorem State.setPkt_draw (v : Memory) : (s.setPkt v).draw = s.draw := rfl
@[simp] theorem State.setPkt_host (v : Memory) : (s.setPkt v).host = s.host := rfl
@[simp] theorem State.setPkt_reply (v : Memory) : (s.setPkt v).reply = s.reply := rfl

/-! ### `State.setIdctr` -/

@[simp] theorem State.setIdctr_build (v : Nat) : (s.setIdctr v).build = s.build := rfl
@[simp] theorem State.setIdctr_off (v : Nat) : (s.setIdctr v).off = s.off := rfl
@[simp] theorem State.setIdctr_clen (v : Nat) : (s.setIdctr v).clen = s.clen := rfl
@[simp] theorem State.setIdctr_crc (v : Nat) : (s.setIdctr v).crc = s.crc := rfl
@[simp] theorem State.setIdctr_msg (v : Nat) : (s.setIdctr v).msg = s.msg := rfl
@[simp] theorem State.setIdctr_keyin (v : Nat) : (s.setIdctr v).keyin = s.keyin := rfl
@[simp] theorem State.setIdctr_plen (v : Nat) : (s.setIdctr v).plen = s.plen := rfl
@[simp] theorem State.setIdctr_status (v : Nat) : (s.setIdctr v).status = s.status := rfl
@[simp] theorem State.setIdctr_ph (v : Nat) : (s.setIdctr v).ph = s.ph := rfl
@[simp] theorem State.setIdctr_cur (v : Nat) : (s.setIdctr v).cur = s.cur := rfl
@[simp] theorem State.setIdctr_pkt (v : Nat) : (s.setIdctr v).pkt = s.pkt := rfl
@[simp] theorem State.setIdctr_idctr (v : Nat) : (s.setIdctr v).idctr = v := rfl
@[simp] theorem State.setIdctr_enc (v : Nat) : (s.setIdctr v).enc = s.enc := rfl
@[simp] theorem State.setIdctr_dec (v : Nat) : (s.setIdctr v).dec = s.dec := rfl
@[simp] theorem State.setIdctr_draw (v : Nat) : (s.setIdctr v).draw = s.draw := rfl
@[simp] theorem State.setIdctr_host (v : Nat) : (s.setIdctr v).host = s.host := rfl
@[simp] theorem State.setIdctr_reply (v : Nat) : (s.setIdctr v).reply = s.reply := rfl

/-! ### `State.setEnc` -/

@[simp] theorem State.setEnc_build (v : List EncSlot) : (s.setEnc v).build = s.build := rfl
@[simp] theorem State.setEnc_off (v : List EncSlot) : (s.setEnc v).off = s.off := rfl
@[simp] theorem State.setEnc_clen (v : List EncSlot) : (s.setEnc v).clen = s.clen := rfl
@[simp] theorem State.setEnc_crc (v : List EncSlot) : (s.setEnc v).crc = s.crc := rfl
@[simp] theorem State.setEnc_msg (v : List EncSlot) : (s.setEnc v).msg = s.msg := rfl
@[simp] theorem State.setEnc_keyin (v : List EncSlot) : (s.setEnc v).keyin = s.keyin := rfl
@[simp] theorem State.setEnc_plen (v : List EncSlot) : (s.setEnc v).plen = s.plen := rfl
@[simp] theorem State.setEnc_status (v : List EncSlot) : (s.setEnc v).status = s.status := rfl
@[simp] theorem State.setEnc_ph (v : List EncSlot) : (s.setEnc v).ph = s.ph := rfl
@[simp] theorem State.setEnc_cur (v : List EncSlot) : (s.setEnc v).cur = s.cur := rfl
@[simp] theorem State.setEnc_pkt (v : List EncSlot) : (s.setEnc v).pkt = s.pkt := rfl
@[simp] theorem State.setEnc_idctr (v : List EncSlot) : (s.setEnc v).idctr = s.idctr := rfl
@[simp] theorem State.setEnc_enc (v : List EncSlot) : (s.setEnc v).enc = v := rfl
@[simp] theorem State.setEnc_dec (v : List EncSlot) : (s.setEnc v).dec = s.dec := rfl
@[simp] theorem State.setEnc_draw (v : List EncSlot) : (s.setEnc v).draw = s.draw := rfl
@[simp] theorem State.setEnc_host (v : List EncSlot) : (s.setEnc v).host = s.host := rfl
@[simp] theorem State.setEnc_reply (v : List EncSlot) : (s.setEnc v).reply = s.reply := rfl

/-! ### `State.setDec` -/

@[simp] theorem State.setDec_build (v : List DecSlot) : (s.setDec v).build = s.build := rfl
@[simp] theorem State.setDec_off (v : List DecSlot) : (s.setDec v).off = s.off := rfl
@[simp] theorem State.setDec_clen (v : List DecSlot) : (s.setDec v).clen = s.clen := rfl
@[simp] theorem State.setDec_crc (v : List DecSlot) : (s.setDec v).crc = s.crc := rfl
@[simp] theorem State.setDec_msg (v : List DecSlot) : (s.setDec v).msg = s.msg := rfl
@[simp] theorem State.setDec_keyin (v : List DecSlot) : (s.setDec v).keyin = s.keyin := rfl
@[simp] theorem State.setDec_plen (v : List DecSlot) : (s.setDec v).plen = s.plen := rfl
@[simp] theorem State.setDec_status (v : List DecSlot) : (s.setDec v).status = s.status := rfl
@[simp] theorem State.setDec_ph (v : List DecSlot) : (s.setDec v).ph = s.ph := rfl
@[simp] theorem State.setDec_cur (v : List DecSlot) : (s.setDec v).cur = s.cur := rfl
@[simp] theorem State.setDec_pkt (v : List DecSlot) : (s.setDec v).pkt = s.pkt := rfl
@[simp] theorem State.setDec_idctr (v : List DecSlot) : (s.setDec v).idctr = s.idctr := rfl
@[simp] theorem State.setDec_enc (v : List DecSlot) : (s.setDec v).enc = s.enc := rfl
@[simp] theorem State.setDec_dec (v : List DecSlot) : (s.setDec v).dec = v := rfl
@[simp] theorem State.setDec_draw (v : List DecSlot) : (s.setDec v).draw = s.draw := rfl
@[simp] theorem State.setDec_host (v : List DecSlot) : (s.setDec v).host = s.host := rfl
@[simp] theorem State.setDec_reply (v : List DecSlot) : (s.setDec v).reply = s.reply := rfl

/-! ### `State.setHost` -/

@[simp] theorem State.setHost_build (v : List HostAct) : (s.setHost v).build = s.build := rfl
@[simp] theorem State.setHost_off (v : List HostAct) : (s.setHost v).off = s.off := rfl
@[simp] theorem State.setHost_clen (v : List HostAct) : (s.setHost v).clen = s.clen := rfl
@[simp] theorem State.setHost_crc (v : List HostAct) : (s.setHost v).crc = s.crc := rfl
@[simp] theorem State.setHost_msg (v : List HostAct) : (s.setHost v).msg = s.msg := rfl
@[simp] theorem State.setHost_keyin (v : List HostAct) : (s.setHost v).keyin = s.keyin := rfl
@[simp] theorem State.setHost_plen (v : List HostAct) : (s.setHost v).plen = s.plen := rfl
@[simp] theorem State.setHost_status (v : List HostAct) : (s.setHost v).status = s.status := rfl
@[simp] theorem State.setHost_ph (v : List HostAct) : (s.setHost v).ph = s.ph := rfl
@[simp] theorem State.setHost_cur (v : List HostAct) : (s.setHost v).cur = s.cur := rfl
@[simp] theorem State.setHost_pkt (v : List HostAct) : (s.setHost v).pkt = s.pkt := rfl
@[simp] theorem State.setHost_idctr (v : List HostAct) : (s.setHost v).idctr = s.idctr := rfl
@[simp] theorem State.setHost_enc (v : List HostAct) : (s.setHost v).enc = s.enc := rfl
@[simp] theorem State.setHost_dec (v : List HostAct) : (s.setHost v).dec = s.dec := rfl
@[simp] theorem State.setHost_draw (v : List HostAct) : (s.setHost v).draw = s.draw := rfl
@[simp] theorem State.setHost_host (v : List HostAct) : (s.setHost v).host = v := rfl
@[simp] theorem State.setHost_reply (v : List HostAct) : (s.setHost v).reply = s.reply := rfl

/-! ### `State.setReply` -/

@[simp] theorem State.setReply_build (v : Option HostVal) : (s.setReply v).build = s.build := rfl
@[simp] theorem State.setReply_off (v : Option HostVal) : (s.setReply v).off = s.off := rfl
@[simp] theorem State.setReply_clen (v : Option HostVal) : (s.setReply v).clen = s.clen := rfl
@[simp] theorem State.setReply_crc (v : Option HostVal) : (s.setReply v).crc = s.crc := rfl
@[simp] theorem State.setReply_msg (v : Option HostVal) : (s.setReply v).msg = s.msg := rfl
@[simp] theorem State.setReply_keyin (v : Option HostVal) : (s.setReply v).keyin = s.keyin := rfl
@[simp] theorem State.setReply_plen (v : Option HostVal) : (s.setReply v).plen = s.plen := rfl
@[simp] theorem State.setReply_status (v : Option HostVal) : (s.setReply v).status = s.status := rfl
@[simp] theorem State.setReply_ph (v : Option HostVal) : (s.setReply v).ph = s.ph := rfl
@[simp] theorem State.setReply_cur (v : Option HostVal) : (s.setReply v).cur = s.cur := rfl
@[simp] theorem State.setReply_pkt (v : Option HostVal) : (s.setReply v).pkt = s.pkt := rfl
@[simp] theorem State.setReply_idctr (v : Option HostVal) : (s.setReply v).idctr = s.idctr := rfl
@[simp] theorem State.setReply_enc (v : Option HostVal) : (s.setReply v).enc = s.enc := rfl
@[simp] theorem State.setReply_dec (v : Option HostVal) : (s.setReply v).dec = s.dec := rfl
@[simp] theorem State.setReply_draw (v : Option HostVal) : (s.setReply v).draw = s.draw := rfl
@[simp] theorem State.setReply_host (v : Option HostVal) : (s.setReply v).host = s.host := rfl
@[simp] theorem State.setReply_reply (v : Option HostVal) : (s.setReply v).reply = v := rfl

/-! ### `State.finish`: the shared completion (R8, R181) -/

@[simp] theorem State.finish_build (c : Completion) : (s.finish c).build = s.build := rfl
@[simp] theorem State.finish_off (c : Completion) : (s.finish c).off = s.off := rfl
@[simp] theorem State.finish_clen (c : Completion) : (s.finish c).clen = s.clen := rfl
@[simp] theorem State.finish_crc (c : Completion) : (s.finish c).crc = s.crc := rfl
@[simp] theorem State.finish_msg (c : Completion) : (s.finish c).msg = s.msg := rfl
@[simp] theorem State.finish_keyin (c : Completion) : (s.finish c).keyin = s.keyin := rfl
@[simp] theorem State.finish_plen (c : Completion) : (s.finish c).plen = s.plen := rfl
@[simp] theorem State.finish_status (c : Completion) : (s.finish c).status = statusCode c := rfl
@[simp] theorem State.finish_ph (c : Completion) : (s.finish c).ph = .idle := rfl
@[simp] theorem State.finish_cur (c : Completion) : (s.finish c).cur = 0 := rfl
@[simp] theorem State.finish_pkt (c : Completion) : (s.finish c).pkt = s.pkt := rfl
@[simp] theorem State.finish_idctr (c : Completion) : (s.finish c).idctr = s.idctr := rfl
@[simp] theorem State.finish_enc (c : Completion) : (s.finish c).enc = s.enc := rfl
@[simp] theorem State.finish_dec (c : Completion) : (s.finish c).dec = s.dec := rfl
@[simp] theorem State.finish_draw (c : Completion) : (s.finish c).draw = s.draw := rfl
@[simp] theorem State.finish_host (c : Completion) : (s.finish c).host = s.host := rfl
@[simp] theorem State.finish_reply (c : Completion) : (s.finish c).reply = s.reply := rfl

/-- Everything a completion does: `STATUS`, `PH` and `CUR`, and nothing else (R181). -/
theorem State.finish_eq (c : Completion) :
    s.finish c = { s with status := statusCode c, ph := .idle, cur := 0 } := rfl

/-! ### `State.memWriteBytes`, `State.advance`, slot updates -/

@[simp] theorem State.memWriteBytes_build (a : Nat) (t : Bytes) : (s.memWriteBytes a t).build = s.build := rfl
@[simp] theorem State.memWriteBytes_off (a : Nat) (t : Bytes) : (s.memWriteBytes a t).off = s.off := rfl
@[simp] theorem State.memWriteBytes_clen (a : Nat) (t : Bytes) : (s.memWriteBytes a t).clen = s.clen := rfl
@[simp] theorem State.memWriteBytes_crc (a : Nat) (t : Bytes) : (s.memWriteBytes a t).crc = s.crc := rfl
@[simp] theorem State.memWriteBytes_msg (a : Nat) (t : Bytes) : (s.memWriteBytes a t).msg = s.msg := rfl
@[simp] theorem State.memWriteBytes_keyin (a : Nat) (t : Bytes) : (s.memWriteBytes a t).keyin = s.keyin := rfl
@[simp] theorem State.memWriteBytes_plen (a : Nat) (t : Bytes) : (s.memWriteBytes a t).plen = s.plen := rfl
@[simp] theorem State.memWriteBytes_status (a : Nat) (t : Bytes) : (s.memWriteBytes a t).status = s.status := rfl
@[simp] theorem State.memWriteBytes_ph (a : Nat) (t : Bytes) : (s.memWriteBytes a t).ph = s.ph := rfl
@[simp] theorem State.memWriteBytes_cur (a : Nat) (t : Bytes) : (s.memWriteBytes a t).cur = s.cur := rfl
@[simp] theorem State.memWriteBytes_pkt (a : Nat) (t : Bytes) : (s.memWriteBytes a t).pkt = Memory.setBytes s.pkt a t := rfl
@[simp] theorem State.memWriteBytes_idctr (a : Nat) (t : Bytes) : (s.memWriteBytes a t).idctr = s.idctr := rfl
@[simp] theorem State.memWriteBytes_enc (a : Nat) (t : Bytes) : (s.memWriteBytes a t).enc = s.enc := rfl
@[simp] theorem State.memWriteBytes_dec (a : Nat) (t : Bytes) : (s.memWriteBytes a t).dec = s.dec := rfl
@[simp] theorem State.memWriteBytes_draw (a : Nat) (t : Bytes) : (s.memWriteBytes a t).draw = s.draw := rfl
@[simp] theorem State.memWriteBytes_host (a : Nat) (t : Bytes) : (s.memWriteBytes a t).host = s.host := rfl
@[simp] theorem State.memWriteBytes_reply (a : Nat) (t : Bytes) : (s.memWriteBytes a t).reply = s.reply := rfl

@[simp] theorem State.advance_build (a n : Nat) : (s.advance a n).build = s.build := rfl
@[simp] theorem State.advance_off (a n : Nat) : (s.advance a n).off = s.off := rfl
@[simp] theorem State.advance_clen (a n : Nat) : (s.advance a n).clen = s.clen := rfl
@[simp] theorem State.advance_crc (a n : Nat) : (s.advance a n).crc = s.crc := rfl
@[simp] theorem State.advance_msg (a n : Nat) : (s.advance a n).msg = s.msg := rfl
@[simp] theorem State.advance_keyin (a n : Nat) : (s.advance a n).keyin = s.keyin := rfl
@[simp] theorem State.advance_plen (a n : Nat) : (s.advance a n).plen = s.plen := rfl
@[simp] theorem State.advance_status (a n : Nat) : (s.advance a n).status = s.status := rfl
@[simp] theorem State.advance_ph (a n : Nat) : (s.advance a n).ph = s.ph := rfl
@[simp] theorem State.advance_cur (a n : Nat) : (s.advance a n).cur = max s.cur (a + n) := rfl
@[simp] theorem State.advance_pkt (a n : Nat) : (s.advance a n).pkt = s.pkt := rfl
@[simp] theorem State.advance_idctr (a n : Nat) : (s.advance a n).idctr = s.idctr := rfl
@[simp] theorem State.advance_enc (a n : Nat) : (s.advance a n).enc = s.enc := rfl
@[simp] theorem State.advance_dec (a n : Nat) : (s.advance a n).dec = s.dec := rfl
@[simp] theorem State.advance_draw (a n : Nat) : (s.advance a n).draw = s.draw := rfl
@[simp] theorem State.advance_host (a n : Nat) : (s.advance a n).host = s.host := rfl
@[simp] theorem State.advance_reply (a n : Nat) : (s.advance a n).reply = s.reply := rfl

@[simp] theorem State.put_build (a n v : Nat) : (s.put a n v).build = s.build := rfl
@[simp] theorem State.put_off (a n v : Nat) : (s.put a n v).off = s.off := rfl
@[simp] theorem State.put_clen (a n v : Nat) : (s.put a n v).clen = s.clen := rfl
@[simp] theorem State.put_crc (a n v : Nat) : (s.put a n v).crc = s.crc := rfl
@[simp] theorem State.put_msg (a n v : Nat) : (s.put a n v).msg = s.msg := rfl
@[simp] theorem State.put_keyin (a n v : Nat) : (s.put a n v).keyin = s.keyin := rfl
@[simp] theorem State.put_plen (a n v : Nat) : (s.put a n v).plen = s.plen := rfl
@[simp] theorem State.put_status (a n v : Nat) : (s.put a n v).status = s.status := rfl
@[simp] theorem State.put_ph (a n v : Nat) : (s.put a n v).ph = s.ph := rfl
@[simp] theorem State.put_cur (a n v : Nat) : (s.put a n v).cur = max s.cur (a + n) := rfl
@[simp] theorem State.put_pkt (a n v : Nat) : (s.put a n v).pkt = Memory.setBytes s.pkt a (be n v) := rfl
@[simp] theorem State.put_idctr (a n v : Nat) : (s.put a n v).idctr = s.idctr := rfl
@[simp] theorem State.put_enc (a n v : Nat) : (s.put a n v).enc = s.enc := rfl
@[simp] theorem State.put_dec (a n v : Nat) : (s.put a n v).dec = s.dec := rfl
@[simp] theorem State.put_draw (a n v : Nat) : (s.put a n v).draw = s.draw := rfl
@[simp] theorem State.put_host (a n v : Nat) : (s.put a n v).host = s.host := rfl
@[simp] theorem State.put_reply (a n v : Nat) : (s.put a n v).reply = s.reply := rfl

@[simp] theorem State.putBytes_build (a : Nat) (t : Bytes) : (s.putBytes a t).build = s.build := rfl
@[simp] theorem State.putBytes_off (a : Nat) (t : Bytes) : (s.putBytes a t).off = s.off := rfl
@[simp] theorem State.putBytes_clen (a : Nat) (t : Bytes) : (s.putBytes a t).clen = s.clen := rfl
@[simp] theorem State.putBytes_crc (a : Nat) (t : Bytes) : (s.putBytes a t).crc = s.crc := rfl
@[simp] theorem State.putBytes_msg (a : Nat) (t : Bytes) : (s.putBytes a t).msg = s.msg := rfl
@[simp] theorem State.putBytes_keyin (a : Nat) (t : Bytes) : (s.putBytes a t).keyin = s.keyin := rfl
@[simp] theorem State.putBytes_plen (a : Nat) (t : Bytes) : (s.putBytes a t).plen = s.plen := rfl
@[simp] theorem State.putBytes_status (a : Nat) (t : Bytes) : (s.putBytes a t).status = s.status := rfl
@[simp] theorem State.putBytes_ph (a : Nat) (t : Bytes) : (s.putBytes a t).ph = s.ph := rfl
@[simp] theorem State.putBytes_cur (a : Nat) (t : Bytes) : (s.putBytes a t).cur = max s.cur (a + t.length) := rfl
@[simp] theorem State.putBytes_pkt (a : Nat) (t : Bytes) : (s.putBytes a t).pkt = Memory.setBytes s.pkt a t := rfl
@[simp] theorem State.putBytes_idctr (a : Nat) (t : Bytes) : (s.putBytes a t).idctr = s.idctr := rfl
@[simp] theorem State.putBytes_enc (a : Nat) (t : Bytes) : (s.putBytes a t).enc = s.enc := rfl
@[simp] theorem State.putBytes_dec (a : Nat) (t : Bytes) : (s.putBytes a t).dec = s.dec := rfl
@[simp] theorem State.putBytes_draw (a : Nat) (t : Bytes) : (s.putBytes a t).draw = s.draw := rfl
@[simp] theorem State.putBytes_host (a : Nat) (t : Bytes) : (s.putBytes a t).host = s.host := rfl
@[simp] theorem State.putBytes_reply (a : Nat) (t : Bytes) : (s.putBytes a t).reply = s.reply := rfl

@[simp] theorem State.setEncSlot_build (e : Nat) (x : EncSlot) : (s.setEncSlot e x).build = s.build := rfl
@[simp] theorem State.setEncSlot_off (e : Nat) (x : EncSlot) : (s.setEncSlot e x).off = s.off := rfl
@[simp] theorem State.setEncSlot_clen (e : Nat) (x : EncSlot) : (s.setEncSlot e x).clen = s.clen := rfl
@[simp] theorem State.setEncSlot_crc (e : Nat) (x : EncSlot) : (s.setEncSlot e x).crc = s.crc := rfl
@[simp] theorem State.setEncSlot_msg (e : Nat) (x : EncSlot) : (s.setEncSlot e x).msg = s.msg := rfl
@[simp] theorem State.setEncSlot_keyin (e : Nat) (x : EncSlot) : (s.setEncSlot e x).keyin = s.keyin := rfl
@[simp] theorem State.setEncSlot_plen (e : Nat) (x : EncSlot) : (s.setEncSlot e x).plen = s.plen := rfl
@[simp] theorem State.setEncSlot_status (e : Nat) (x : EncSlot) : (s.setEncSlot e x).status = s.status := rfl
@[simp] theorem State.setEncSlot_ph (e : Nat) (x : EncSlot) : (s.setEncSlot e x).ph = s.ph := rfl
@[simp] theorem State.setEncSlot_cur (e : Nat) (x : EncSlot) : (s.setEncSlot e x).cur = s.cur := rfl
@[simp] theorem State.setEncSlot_pkt (e : Nat) (x : EncSlot) : (s.setEncSlot e x).pkt = s.pkt := rfl
@[simp] theorem State.setEncSlot_idctr (e : Nat) (x : EncSlot) : (s.setEncSlot e x).idctr = s.idctr := rfl
@[simp] theorem State.setEncSlot_enc (e : Nat) (x : EncSlot) : (s.setEncSlot e x).enc = s.enc.set e x := rfl
@[simp] theorem State.setEncSlot_dec (e : Nat) (x : EncSlot) : (s.setEncSlot e x).dec = s.dec := rfl
@[simp] theorem State.setEncSlot_draw (e : Nat) (x : EncSlot) : (s.setEncSlot e x).draw = s.draw := rfl
@[simp] theorem State.setEncSlot_host (e : Nat) (x : EncSlot) : (s.setEncSlot e x).host = s.host := rfl
@[simp] theorem State.setEncSlot_reply (e : Nat) (x : EncSlot) : (s.setEncSlot e x).reply = s.reply := rfl

@[simp] theorem State.setDecSlot_build (d : Nat) (x : DecSlot) : (s.setDecSlot d x).build = s.build := rfl
@[simp] theorem State.setDecSlot_off (d : Nat) (x : DecSlot) : (s.setDecSlot d x).off = s.off := rfl
@[simp] theorem State.setDecSlot_clen (d : Nat) (x : DecSlot) : (s.setDecSlot d x).clen = s.clen := rfl
@[simp] theorem State.setDecSlot_crc (d : Nat) (x : DecSlot) : (s.setDecSlot d x).crc = s.crc := rfl
@[simp] theorem State.setDecSlot_msg (d : Nat) (x : DecSlot) : (s.setDecSlot d x).msg = s.msg := rfl
@[simp] theorem State.setDecSlot_keyin (d : Nat) (x : DecSlot) : (s.setDecSlot d x).keyin = s.keyin := rfl
@[simp] theorem State.setDecSlot_plen (d : Nat) (x : DecSlot) : (s.setDecSlot d x).plen = s.plen := rfl
@[simp] theorem State.setDecSlot_status (d : Nat) (x : DecSlot) : (s.setDecSlot d x).status = s.status := rfl
@[simp] theorem State.setDecSlot_ph (d : Nat) (x : DecSlot) : (s.setDecSlot d x).ph = s.ph := rfl
@[simp] theorem State.setDecSlot_cur (d : Nat) (x : DecSlot) : (s.setDecSlot d x).cur = s.cur := rfl
@[simp] theorem State.setDecSlot_pkt (d : Nat) (x : DecSlot) : (s.setDecSlot d x).pkt = s.pkt := rfl
@[simp] theorem State.setDecSlot_idctr (d : Nat) (x : DecSlot) : (s.setDecSlot d x).idctr = s.idctr := rfl
@[simp] theorem State.setDecSlot_enc (d : Nat) (x : DecSlot) : (s.setDecSlot d x).enc = s.enc := rfl
@[simp] theorem State.setDecSlot_dec (d : Nat) (x : DecSlot) : (s.setDecSlot d x).dec = s.dec.set d x := rfl
@[simp] theorem State.setDecSlot_draw (d : Nat) (x : DecSlot) : (s.setDecSlot d x).draw = s.draw := rfl
@[simp] theorem State.setDecSlot_host (d : Nat) (x : DecSlot) : (s.setDecSlot d x).host = s.host := rfl
@[simp] theorem State.setDecSlot_reply (d : Nat) (x : DecSlot) : (s.setDecSlot d x).reply = s.reply := rfl

/-! ### The run of a command -/

variable (r : Run)

@[simp] theorem Run.start_state : (Run.start s).state = s := rfl
@[simp] theorem Run.start_events : (Run.start s).events = [] := rfl
@[simp] theorem Run.upd_state (f : State → State) : (r.upd f).state = f r.state := rfl
@[simp] theorem Run.upd_events (f : State → State) : (r.upd f).events = r.events := rfl
@[simp] theorem Run.enter_state (p : Phase) : (r.enter p).state = r.state.setPh p := rfl
@[simp] theorem Run.enter_events (p : Phase) : (r.enter p).events = r.events ++ [.phase p] := rfl
@[simp] theorem Run.called_state (c : Call) : (r.called c).state = r.state := rfl
@[simp] theorem Run.called_events (c : Call) : (r.called c).events = r.events ++ [.call c] := rfl
@[simp] theorem Run.reads_state (a n : Nat) : (r.reads a n).state = r.state.advance a n := rfl
@[simp] theorem Run.reads_events (a n : Nat) : (r.reads a n).events = r.events := rfl
@[simp] theorem Run.complete_state (c : Completion) : (r.complete c).state = r.state.finish c := rfl
@[simp] theorem Run.complete_events (c : Completion) : (r.complete c).events = r.events := rfl
@[simp] theorem Run.raiseInvalidPacket_state : r.raiseInvalidPacket.state = r.state.finish .invalidPacket := rfl
@[simp] theorem Run.raiseInvalidPacket_events : r.raiseInvalidPacket.events = r.events := rfl
@[simp] theorem Run.raiseEncodeFailure_state : r.raiseEncodeFailure.state = r.state.finish .encodeFailure := rfl
@[simp] theorem Run.raiseEncodeFailure_events : r.raiseEncodeFailure.events = r.events := rfl

/-! ### What the derived readings depend on -/

@[simp] theorem State.wBytes_eq : s.wBytes = s.build.w.bytes := rfl
@[simp] theorem State.idLimit_eq : s.idLimit = 2 ^ (8 * s.build.w.bytes) := rfl

/-- A byte of the buffer is a function of the buffer and of the reset lifetime alone. -/
theorem State.pktByte_congr {s t : State} (hp : s.pkt = t.pkt) (hd : s.draw = t.draw) (a : Nat) :
    s.pktByte a = t.pktByte a := by
  simp only [State.pktByte, hp, hd]

/-- So is a byte string read from it. -/
theorem State.memReadBytes_congr {s t : State} (hp : s.pkt = t.pkt) (hd : s.draw = t.draw) (a n : Nat) :
    s.memReadBytes a n = t.memReadBytes a n := by
  simp only [State.memReadBytes, State.pktByte_congr hp hd]

/-- So is a number read from it. -/
theorem State.memRead_congr {s t : State} (hp : s.pkt = t.pkt) (hd : s.draw = t.draw) (a n : Nat) :
    s.memRead a n = t.memRead a n := by
  simp only [State.memRead, State.memReadBytes_congr hp hd]

/-- A CRC over the buffer depends on the variant besides. -/
theorem State.crcOver_congr {s t : State} (hb : s.build = t.build) (hp : s.pkt = t.pkt) (hd : s.draw = t.draw)
    (a n : Nat) : s.crcOver a n = t.crcOver a n := by
  simp only [State.crcOver, State.memReadBytes_congr hp hd, hb]

/-- An encoder slot read back depends on the slots alone. -/
theorem State.encSlot_congr {s t : State} (h : s.enc = t.enc) (e : Nat) : s.encSlot e = t.encSlot e := by
  simp only [State.encSlot, h]

/-- A decoder slot read back depends on the slots alone. -/
theorem State.decSlot_congr {s t : State} (h : s.dec = t.dec) (d : Nat) : s.decSlot d = t.decSlot d := by
  simp only [State.decSlot, h]

/-- The slot just written reads back. -/
theorem State.encSlot_setEncSlot_self (e : Nat) (x : EncSlot) (h : e < s.enc.length) :
    (s.setEncSlot e x).encSlot e = x := by
  simp [State.encSlot, h]

/-- Every other slot is unchanged. -/
theorem State.encSlot_setEncSlot_of_ne (e f : Nat) (x : EncSlot) (h : e ≠ f) :
    (s.setEncSlot e x).encSlot f = s.encSlot f := by
  simp [State.encSlot, h]

/-- The decoder slot just written reads back. -/
theorem State.decSlot_setDecSlot_self (d : Nat) (x : DecSlot) (h : d < s.dec.length) :
    (s.setDecSlot d x).decSlot d = x := by
  simp [State.decSlot, h]

/-- Every other decoder slot is unchanged. -/
theorem State.decSlot_setDecSlot_of_ne (d f : Nat) (x : DecSlot) (h : d ≠ f) :
    (s.setDecSlot d x).decSlot f = s.decSlot f := by
  simp [State.decSlot, h]

/-- An existing slot is a member of the list of slots. -/
theorem State.encSlot_mem (e : Nat) (h : e < s.enc.length) : s.encSlot e ∈ s.enc := by
  simp [State.encSlot, h]

/-- An existing decoder slot is a member of the list of slots. -/
theorem State.decSlot_mem (d : Nat) (h : d < s.dec.length) : s.decSlot d ∈ s.dec := by
  simp [State.decSlot, h]

end Sys2Proof.Machine
end

