-- ==== Sys2Proof/Laws/Memory.lean ====
section
/-! SUPPORT. The packet buffer: a read after a write, what a write leaves alone, and the canonical form every write
keeps. -/

namespace Sys2Proof.Machine

/-- A read after a write to the same place gives the byte written, and a write leaves every other place alone. -/
theorem Memory.get?_set (m : Memory) (a a' : Nat) (b : Byte) :
    Memory.get? (Memory.set m a b) a' = if a' = a then some b else Memory.get? m a' := by
  induction m with
  | nil => simp only [Memory.set, Memory.get?, eq_comm]
  | cons c m ih =>
    simp only [Memory.set]
    by_cases h₁ : a < c.1
    · simp only [if_pos h₁, Memory.get?, eq_comm (a := a)]
    · by_cases h₂ : a = c.1
      · subst h₂
        simp only [lt_irrefl, if_false, if_true, Memory.get?, eq_comm (a := c.1)]
        split_ifs <;> rfl
      · simp only [if_neg h₁, if_neg h₂, Memory.get?, ih]
        by_cases h₃ : a' = a
        · rw [h₃, if_pos rfl, if_pos rfl, if_neg (Ne.symm h₂)]
        · rw [if_neg h₃, if_neg h₃]

/-- Writing a byte string, then reading one byte. -/
theorem Memory.get?_setBytes (m : Memory) (a a' : Nat) (t : Bytes) :
    Memory.get? (Memory.setBytes m a t) a' =
      if a ≤ a' ∧ a' < a + t.length then t[a' - a]? else Memory.get? m a' := by
  induction t generalizing m a with
  | nil => simp only [Memory.setBytes, List.length_nil]; rw [if_neg (by omega)]
  | cons b t ih =>
    rw [Memory.setBytes, ih, Memory.get?_set, List.length_cons]
    by_cases h₁ : a' = a
    · subst h₁
      rw [if_neg (by omega), if_pos rfl, if_pos (by omega)]
      simp
    · by_cases h₂ : a + 1 ≤ a' ∧ a' < a + 1 + t.length
      · rw [if_pos h₂, if_pos (by omega), show a' - a = a' - (a + 1) + 1 by omega]
        simp
      · rw [if_neg h₂, if_neg h₁, if_neg (by omega)]

/-- Two byte strings written one after the other are one byte string written. -/
theorem Memory.setBytes_append (m : Memory) (a : Nat) (t u : Bytes) :
    Memory.setBytes m a (t ++ u) = Memory.setBytes (Memory.setBytes m a t) (a + t.length) u := by
  induction t generalizing m a with
  | nil => rfl
  | cons b t ih =>
    simp only [List.cons_append, Memory.setBytes, ih, List.length_cons]
    congr 1
    omega

/-- The canonical form is that the offsets rise strictly. -/
theorem Memory.wf_iff (m : Memory) : Memory.wf m = true ↔ m.Pairwise fun c d => c.1 < d.1 := by
  induction m with
  | nil => simp [Memory.wf]
  | cons c m ih =>
    cases m with
    | nil => simp [Memory.wf]
    | cons d m =>
      rw [Memory.wf, Bool.and_eq_true, ih, decide_eq_true_eq, List.pairwise_cons (l := d :: m)]
      refine and_congr_left fun h => ⟨fun hcd e he => ?_, fun hall => hall d (by simp)⟩
      rcases List.mem_cons.1 he with rfl | he
      · exact hcd
      · exact hcd.trans ((List.pairwise_cons.1 h).1 e he)

/-- The offsets of a buffer after a write: the old ones and the one written. -/
theorem Memory.mem_set (m : Memory) (a : Nat) (b : Byte) (c : Host.Cell) (h : c ∈ Memory.set m a b) :
    c = (a, b) ∨ c ∈ m := by
  induction m with
  | nil => simpa [Memory.set] using h
  | cons d m ih =>
    unfold Memory.set at h
    split_ifs at h with h₁ h₂
    · simpa using h
    · rcases List.mem_cons.1 h with h | h
      · exact .inl h
      · exact .inr (List.mem_cons_of_mem _ h)
    · rcases List.mem_cons.1 h with h | h
      · exact .inr (by simp [h])
      · exact (ih h).imp id (List.mem_cons_of_mem _)

/-- A write keeps the canonical form. -/
theorem Memory.wf_set (m : Memory) (a : Nat) (b : Byte) (h : Memory.wf m = true) :
    Memory.wf (Memory.set m a b) = true := by
  rw [Memory.wf_iff] at h ⊢
  induction m with
  | nil => simp [Memory.set]
  | cons c m ih =>
    have hc := List.pairwise_cons.1 h
    unfold Memory.set
    split_ifs with h₁ h₂
    · refine List.pairwise_cons.2 ⟨fun e he => ?_, h⟩
      rcases List.mem_cons.1 he with rfl | he
      · exact h₁
      · exact h₁.trans (hc.1 e he)
    · subst h₂; exact List.pairwise_cons.2 ⟨hc.1, hc.2⟩
    · refine List.pairwise_cons.2 ⟨fun e he => ?_, ih hc.2⟩
      rcases Memory.mem_set m a b e he with rfl | he
      · exact lt_of_le_of_ne (not_lt.1 h₁) (Ne.symm h₂)
      · exact hc.1 e he

/-- Writing a byte string keeps the canonical form. -/
theorem Memory.wf_setBytes (m : Memory) (a : Nat) (t : Bytes) (h : Memory.wf m = true) :
    Memory.wf (Memory.setBytes m a t) = true := by
  induction t generalizing m a with
  | nil => exact h
  | cons b t ih => exact ih _ _ (Memory.wf_set m a b h)

/-- A write below `n` keeps the buffer inside its address space. -/
theorem Memory.below_set (n : Nat) (m : Memory) (a : Nat) (b : Byte) (h : Memory.below n m = true) (ha : a < n) :
    Memory.below n (Memory.set m a b) = true := by
  simp only [Memory.below, List.all_eq_true, decide_eq_true_eq] at h ⊢
  intro c hc
  rcases Memory.mem_set m a b c hc with rfl | hc
  · exact ha
  · exact h c hc

/-- So does writing a byte string that ends at or below `n`. -/
theorem Memory.below_setBytes (n : Nat) (m : Memory) (a : Nat) (t : Bytes) (h : Memory.below n m = true)
    (ha : a + t.length ≤ n) : Memory.below n (Memory.setBytes m a t) = true := by
  induction t generalizing m a with
  | nil => exact h
  | cons b t ih =>
    simp only [List.length_cons] at ha
    exact ih _ _ (Memory.below_set n m a b h (by omega)) (by omega)

/-! ### The same facts on the state -/

variable (s : State)

/-- One byte of the buffer after a write (R8). -/
theorem State.pktByte_memWriteBytes (a : Nat) (t : Bytes) (x : Nat) :
    (s.memWriteBytes a t).pktByte x =
      if h : a ≤ x ∧ x < a + t.length then t[x - a]'(by omega) else s.pktByte x := by
  rw [State.pktByte, State.memWriteBytes_pkt, State.memWriteBytes_draw, Memory.get?_setBytes]
  split_ifs with h
  · rw [List.getElem?_eq_getElem (by omega), Option.getD_some]
  · rfl

@[simp] theorem State.memReadBytes_length (a n : Nat) : (s.memReadBytes a n).length = n := by
  simp [State.memReadBytes]

theorem State.memReadBytes_getElem (a n i : Nat) (h : i < (s.memReadBytes a n).length) :
    (s.memReadBytes a n)[i] = s.pktByte (a + i) := by
  simp [State.memReadBytes]

/-- A range read is two ranges read. -/
theorem State.memReadBytes_add (a m n : Nat) :
    s.memReadBytes a (m + n) = s.memReadBytes a m ++ s.memReadBytes (a + m) n := by
  simp only [State.memReadBytes, List.range_add, List.map_append, List.map_map]
  refine congrArg₂ _ rfl (List.map_congr_left fun i _ => ?_)
  simp [Nat.add_assoc]

/-- What was just written reads back. -/
theorem State.memReadBytes_memWriteBytes_self (a : Nat) (t : Bytes) :
    (s.memWriteBytes a t).memReadBytes a t.length = t := by
  refine List.ext_getElem (by simp) fun i h₁ h₂ => ?_
  rw [State.memReadBytes_getElem, State.pktByte_memWriteBytes, dif_pos (by omega)]
  simp

/-- A range that the write does not touch reads as before. -/
theorem State.memReadBytes_memWriteBytes_of_disjoint (a : Nat) (t : Bytes) (x n : Nat)
    (h : x + n ≤ a ∨ a + t.length ≤ x) : (s.memWriteBytes a t).memReadBytes x n = s.memReadBytes x n := by
  refine List.ext_getElem (by simp) fun i h₁ h₂ => ?_
  rw [State.memReadBytes_length] at h₁
  rw [State.memReadBytes_getElem, State.memReadBytes_getElem, State.pktByte_memWriteBytes, dif_neg (by omega)]

/-- A number read is below `2^(8n)`. -/
theorem State.memRead_lt (a n : Nat) : s.memRead a n < 2 ^ (8 * n) := by
  have h := ube_lt (s.memReadBytes a n)
  rwa [State.memReadBytes_length] at h

end Sys2Proof.Machine
end

