-- ==== Sys2Proof/Laws/Packet.lean ====
section
/-! SUPPORT. What the shared operations of `ENCODE` and `DECODE` on the packet buffer do, each said once: the three
writes of `ENCODE`, each as one byte string, and the assignment and the commit of the message registers. -/

namespace Sys2Proof.Machine

variable (s : State)

@[simp] theorem frameHeader_length (w sid seq l : Nat) : (frameHeader w sid seq l).length = 13 + w := by
  simp only [frameHeader, List.length_append, be_length, List.length_singleton]; omega

@[simp] theorem frameMiddle_length (grp sub : Int) (body : Bytes) :
    (frameMiddle grp sub body).length = 8 + body.length := by
  simp only [frameMiddle, List.length_append, be_length]

/-- A CRC over bytes just written is the CRC of what was written. -/
theorem State.crcOver_of_setBytes {s t : State} {a : Nat} {b : Bytes} (hb : t.build = s.build)
    (hp : t.pkt = Memory.setBytes s.pkt a b) (hd : t.draw = s.draw) :
    t.crcOver a b.length = crc16 s.build.crcp b := by
  rw [State.crcOver, hb, State.memReadBytes_congr (t := s.memWriteBytes a b) hp hd,
    State.memReadBytes_memWriteBytes_self]

/-- What `E5` writes: the header and the CRC of the header (R68, R73, R126). -/
theorem State.writeHeader_pkt (l : Nat) :
    (s.writeHeader l).pkt = Memory.setBytes s.pkt 0
      (frameHeader s.build.w.bytes s.msg.sid s.msg.seq.toNat l ++
        be 2 (crc16 s.build.crcp (frameHeader s.build.w.bytes s.msg.sid s.msg.seq.toNat l)).toNat) := by
  simp only [State.writeHeader, State.wBytes_eq]
  generalize hw : s.build.w.bytes = w
  generalize ht : (((s.put atMagic 1 Config.magic.toNat).put atSid w s.msg.sid).put (atSeq w) 8
    s.msg.seq.toNat).put (atTotal w) 4 (25 + w + l) = t
  have hp : t.pkt = Memory.setBytes s.pkt 0 (frameHeader w s.msg.sid s.msg.seq.toNat l) := by
    have hm : be 1 Config.magic.toNat = [Config.magic] := by decide
    rw [← ht, frameHeader]
    simp only [State.put_pkt, hm, atMagic, atSid, atSeq, atTotal, Memory.setBytes_append, List.length_append,
      List.length_singleton, be_length, Nat.zero_add]
    rw [show 9 + w = 1 + w + 8 by omega]
  have hb : t.build = s.build := by simp only [← ht, State.put_build]
  have hd : t.draw = s.draw := by simp only [← ht, State.put_draw]
  have hc := State.crcOver_of_setBytes hb hp hd
  rw [frameHeader_length] at hc
  rw [State.put_pkt, hc, hp, Memory.setBytes_append, frameHeader_length, atCheck1, Nat.zero_add]

/-- What `E6` writes: the tags and the body (R69, R70, R73, R126). -/
theorem State.writeMiddle_pkt (body : Bytes) :
    (s.writeMiddle body).pkt =
      Memory.setBytes s.pkt (15 + s.build.w.bytes) (frameMiddle s.msg.grp.toInt s.msg.sub.toInt body) := by
  simp only [State.writeMiddle, State.wBytes_eq, State.put_pkt, State.putBytes_pkt, frameMiddle, atGrp, atSub, atBody,
    Memory.setBytes_append, List.length_append, be_length]
  rw [show 19 + s.build.w.bytes = 15 + s.build.w.bytes + 4 by omega,
    show 23 + s.build.w.bytes = 15 + s.build.w.bytes + (4 + 4) by omega]

/-- What `E7` writes, where the middle of the packet has just been written: its CRC (R71, R73, R126). -/
theorem State.writeCheck2_pkt (m : Memory) (b : Bytes) (l : Nat) (hl : b.length = 8 + l)
    (hp : s.pkt = Memory.setBytes m (15 + s.build.w.bytes) b) :
    (s.writeCheck2 l).pkt = Memory.setBytes m (15 + s.build.w.bytes) (b ++ be 2 (crc16 s.build.crcp b).toNat) := by
  have hc : s.crcOver (15 + s.build.w.bytes) b.length = crc16 s.build.crcp b :=
    State.crcOver_of_setBytes (s := s.setPkt m) (by rfl) hp (by rfl)
  rw [hl] at hc
  simp only [State.writeCheck2, State.wBytes_eq, State.put_pkt, atGrp, atCheck2, hc]
  rw [hp, Memory.setBytes_append, hl]
  congr 1
  omega

/-! ### What these operations leave alone -/

@[simp] theorem State.writeHeader_build (l : Nat) : (s.writeHeader l).build = s.build := by
  simp only [State.writeHeader, State.put_build]
@[simp] theorem State.writeHeader_off (l : Nat) : (s.writeHeader l).off = s.off := by
  simp only [State.writeHeader, State.put_off]
@[simp] theorem State.writeHeader_clen (l : Nat) : (s.writeHeader l).clen = s.clen := by
  simp only [State.writeHeader, State.put_clen]
@[simp] theorem State.writeHeader_crc (l : Nat) : (s.writeHeader l).crc = s.crc := by
  simp only [State.writeHeader, State.put_crc]
@[simp] theorem State.writeHeader_msg (l : Nat) : (s.writeHeader l).msg = s.msg := by
  simp only [State.writeHeader, State.put_msg]
@[simp] theorem State.writeHeader_keyin (l : Nat) : (s.writeHeader l).keyin = s.keyin := by
  simp only [State.writeHeader, State.put_keyin]
@[simp] theorem State.writeHeader_plen (l : Nat) : (s.writeHeader l).plen = s.plen := by
  simp only [State.writeHeader, State.put_plen]
@[simp] theorem State.writeHeader_status (l : Nat) : (s.writeHeader l).status = s.status := by
  simp only [State.writeHeader, State.put_status]
@[simp] theorem State.writeHeader_ph (l : Nat) : (s.writeHeader l).ph = s.ph := by
  simp only [State.writeHeader, State.put_ph]
@[simp] theorem State.writeHeader_idctr (l : Nat) : (s.writeHeader l).idctr = s.idctr := by
  simp only [State.writeHeader, State.put_idctr]
@[simp] theorem State.writeHeader_enc (l : Nat) : (s.writeHeader l).enc = s.enc := by
  simp only [State.writeHeader, State.put_enc]
@[simp] theorem State.writeHeader_dec (l : Nat) : (s.writeHeader l).dec = s.dec := by
  simp only [State.writeHeader, State.put_dec]
@[simp] theorem State.writeHeader_draw (l : Nat) : (s.writeHeader l).draw = s.draw := by
  simp only [State.writeHeader, State.put_draw]
@[simp] theorem State.writeHeader_host (l : Nat) : (s.writeHeader l).host = s.host := by
  simp only [State.writeHeader, State.put_host]
@[simp] theorem State.writeHeader_reply (l : Nat) : (s.writeHeader l).reply = s.reply := by
  simp only [State.writeHeader, State.put_reply]

@[simp] theorem State.writeMiddle_build (body : Bytes) : (s.writeMiddle body).build = s.build := by
  simp only [State.writeMiddle, State.put_build, State.putBytes_build]
@[simp] theorem State.writeMiddle_off (body : Bytes) : (s.writeMiddle body).off = s.off := by
  simp only [State.writeMiddle, State.put_off, State.putBytes_off]
@[simp] theorem State.writeMiddle_clen (body : Bytes) : (s.writeMiddle body).clen = s.clen := by
  simp only [State.writeMiddle, State.put_clen, State.putBytes_clen]
@[simp] theorem State.writeMiddle_crc (body : Bytes) : (s.writeMiddle body).crc = s.crc := by
  simp only [State.writeMiddle, State.put_crc, State.putBytes_crc]
@[simp] theorem State.writeMiddle_msg (body : Bytes) : (s.writeMiddle body).msg = s.msg := by
  simp only [State.writeMiddle, State.put_msg, State.putBytes_msg]
@[simp] theorem State.writeMiddle_keyin (body : Bytes) : (s.writeMiddle body).keyin = s.keyin := by
  simp only [State.writeMiddle, State.put_keyin, State.putBytes_keyin]
@[simp] theorem State.writeMiddle_plen (body : Bytes) : (s.writeMiddle body).plen = s.plen := by
  simp only [State.writeMiddle, State.put_plen, State.putBytes_plen]
@[simp] theorem State.writeMiddle_status (body : Bytes) : (s.writeMiddle body).status = s.status := by
  simp only [State.writeMiddle, State.put_status, State.putBytes_status]
@[simp] theorem State.writeMiddle_ph (body : Bytes) : (s.writeMiddle body).ph = s.ph := by
  simp only [State.writeMiddle, State.put_ph, State.putBytes_ph]
@[simp] theorem State.writeMiddle_idctr (body : Bytes) : (s.writeMiddle body).idctr = s.idctr := by
  simp only [State.writeMiddle, State.put_idctr, State.putBytes_idctr]
@[simp] theorem State.writeMiddle_enc (body : Bytes) : (s.writeMiddle body).enc = s.enc := by
  simp only [State.writeMiddle, State.put_enc, State.putBytes_enc]
@[simp] theorem State.writeMiddle_dec (body : Bytes) : (s.writeMiddle body).dec = s.dec := by
  simp only [State.writeMiddle, State.put_dec, State.putBytes_dec]
@[simp] theorem State.writeMiddle_draw (body : Bytes) : (s.writeMiddle body).draw = s.draw := by
  simp only [State.writeMiddle, State.put_draw, State.putBytes_draw]
@[simp] theorem State.writeMiddle_host (body : Bytes) : (s.writeMiddle body).host = s.host := by
  simp only [State.writeMiddle, State.put_host, State.putBytes_host]
@[simp] theorem State.writeMiddle_reply (body : Bytes) : (s.writeMiddle body).reply = s.reply := by
  simp only [State.writeMiddle, State.put_reply, State.putBytes_reply]

@[simp] theorem State.writeCheck2_build (l : Nat) : (s.writeCheck2 l).build = s.build := by
  simp only [State.writeCheck2, State.put_build]
@[simp] theorem State.writeCheck2_off (l : Nat) : (s.writeCheck2 l).off = s.off := by
  simp only [State.writeCheck2, State.put_off]
@[simp] theorem State.writeCheck2_clen (l : Nat) : (s.writeCheck2 l).clen = s.clen := by
  simp only [State.writeCheck2, State.put_clen]
@[simp] theorem State.writeCheck2_crc (l : Nat) : (s.writeCheck2 l).crc = s.crc := by
  simp only [State.writeCheck2, State.put_crc]
@[simp] theorem State.writeCheck2_msg (l : Nat) : (s.writeCheck2 l).msg = s.msg := by
  simp only [State.writeCheck2, State.put_msg]
@[simp] theorem State.writeCheck2_keyin (l : Nat) : (s.writeCheck2 l).keyin = s.keyin := by
  simp only [State.writeCheck2, State.put_keyin]
@[simp] theorem State.writeCheck2_plen (l : Nat) : (s.writeCheck2 l).plen = s.plen := by
  simp only [State.writeCheck2, State.put_plen]
@[simp] theorem State.writeCheck2_status (l : Nat) : (s.writeCheck2 l).status = s.status := by
  simp only [State.writeCheck2, State.put_status]
@[simp] theorem State.writeCheck2_ph (l : Nat) : (s.writeCheck2 l).ph = s.ph := by
  simp only [State.writeCheck2, State.put_ph]
@[simp] theorem State.writeCheck2_idctr (l : Nat) : (s.writeCheck2 l).idctr = s.idctr := by
  simp only [State.writeCheck2, State.put_idctr]
@[simp] theorem State.writeCheck2_enc (l : Nat) : (s.writeCheck2 l).enc = s.enc := by
  simp only [State.writeCheck2, State.put_enc]
@[simp] theorem State.writeCheck2_dec (l : Nat) : (s.writeCheck2 l).dec = s.dec := by
  simp only [State.writeCheck2, State.put_dec]
@[simp] theorem State.writeCheck2_draw (l : Nat) : (s.writeCheck2 l).draw = s.draw := by
  simp only [State.writeCheck2, State.put_draw]
@[simp] theorem State.writeCheck2_host (l : Nat) : (s.writeCheck2 l).host = s.host := by
  simp only [State.writeCheck2, State.put_host]
@[simp] theorem State.writeCheck2_reply (l : Nat) : (s.writeCheck2 l).reply = s.reply := by
  simp only [State.writeCheck2, State.put_reply]

@[simp] theorem State.assignSequence_build (e : Nat) : (s.assignSequence e).build = s.build := rfl
@[simp] theorem State.assignSequence_off (e : Nat) : (s.assignSequence e).off = s.off := rfl
@[simp] theorem State.assignSequence_clen (e : Nat) : (s.assignSequence e).clen = s.clen := rfl
@[simp] theorem State.assignSequence_crc (e : Nat) : (s.assignSequence e).crc = s.crc := rfl
@[simp] theorem State.assignSequence_keyin (e : Nat) : (s.assignSequence e).keyin = s.keyin := rfl
@[simp] theorem State.assignSequence_plen (e : Nat) : (s.assignSequence e).plen = s.plen := rfl
@[simp] theorem State.assignSequence_status (e : Nat) : (s.assignSequence e).status = s.status := rfl
@[simp] theorem State.assignSequence_ph (e : Nat) : (s.assignSequence e).ph = s.ph := rfl
@[simp] theorem State.assignSequence_idctr (e : Nat) : (s.assignSequence e).idctr = s.idctr := rfl
@[simp] theorem State.assignSequence_dec (e : Nat) : (s.assignSequence e).dec = s.dec := rfl
@[simp] theorem State.assignSequence_draw (e : Nat) : (s.assignSequence e).draw = s.draw := rfl
@[simp] theorem State.assignSequence_host (e : Nat) : (s.assignSequence e).host = s.host := rfl
@[simp] theorem State.assignSequence_reply (e : Nat) : (s.assignSequence e).reply = s.reply := rfl
@[simp] theorem State.assignSequence_pkt (e : Nat) : (s.assignSequence e).pkt = s.pkt := rfl
@[simp] theorem State.assignSequence_cur (e : Nat) : (s.assignSequence e).cur = s.cur := rfl

@[simp] theorem State.commitMessage_build (p : Payload) : (s.commitMessage p).build = s.build := rfl
@[simp] theorem State.commitMessage_off (p : Payload) : (s.commitMessage p).off = s.off := rfl
@[simp] theorem State.commitMessage_clen (p : Payload) : (s.commitMessage p).clen = s.clen := rfl
@[simp] theorem State.commitMessage_crc (p : Payload) : (s.commitMessage p).crc = s.crc := rfl
@[simp] theorem State.commitMessage_keyin (p : Payload) : (s.commitMessage p).keyin = s.keyin := rfl
@[simp] theorem State.commitMessage_plen (p : Payload) : (s.commitMessage p).plen = s.plen := rfl
@[simp] theorem State.commitMessage_status (p : Payload) : (s.commitMessage p).status = s.status := rfl
@[simp] theorem State.commitMessage_ph (p : Payload) : (s.commitMessage p).ph = s.ph := rfl
@[simp] theorem State.commitMessage_idctr (p : Payload) : (s.commitMessage p).idctr = s.idctr := rfl
@[simp] theorem State.commitMessage_enc (p : Payload) : (s.commitMessage p).enc = s.enc := rfl
@[simp] theorem State.commitMessage_dec (p : Payload) : (s.commitMessage p).dec = s.dec := rfl
@[simp] theorem State.commitMessage_draw (p : Payload) : (s.commitMessage p).draw = s.draw := rfl
@[simp] theorem State.commitMessage_host (p : Payload) : (s.commitMessage p).host = s.host := rfl
@[simp] theorem State.commitMessage_reply (p : Payload) : (s.commitMessage p).reply = s.reply := rfl
@[simp] theorem State.commitMessage_pkt (p : Payload) : (s.commitMessage p).pkt = s.pkt := rfl
@[simp] theorem State.commitMessage_cur (p : Payload) : (s.commitMessage p).cur = s.cur := rfl

@[simp] theorem State.constructEncoder_build (e : Nat) : (s.constructEncoder e).build = s.build := rfl
@[simp] theorem State.constructEncoder_off (e : Nat) : (s.constructEncoder e).off = s.off := rfl
@[simp] theorem State.constructEncoder_clen (e : Nat) : (s.constructEncoder e).clen = s.clen := rfl
@[simp] theorem State.constructEncoder_crc (e : Nat) : (s.constructEncoder e).crc = s.crc := rfl
@[simp] theorem State.constructEncoder_msg (e : Nat) : (s.constructEncoder e).msg = s.msg := rfl
@[simp] theorem State.constructEncoder_keyin (e : Nat) : (s.constructEncoder e).keyin = s.keyin := rfl
@[simp] theorem State.constructEncoder_plen (e : Nat) : (s.constructEncoder e).plen = s.plen := rfl
@[simp] theorem State.constructEncoder_status (e : Nat) : (s.constructEncoder e).status = s.status := rfl
@[simp] theorem State.constructEncoder_ph (e : Nat) : (s.constructEncoder e).ph = s.ph := rfl
@[simp] theorem State.constructEncoder_dec (e : Nat) : (s.constructEncoder e).dec = s.dec := rfl
@[simp] theorem State.constructEncoder_draw (e : Nat) : (s.constructEncoder e).draw = s.draw := rfl
@[simp] theorem State.constructEncoder_host (e : Nat) : (s.constructEncoder e).host = s.host := rfl
@[simp] theorem State.constructEncoder_reply (e : Nat) : (s.constructEncoder e).reply = s.reply := rfl
@[simp] theorem State.constructEncoder_pkt (e : Nat) : (s.constructEncoder e).pkt = s.pkt := rfl
@[simp] theorem State.constructEncoder_cur (e : Nat) : (s.constructEncoder e).cur = s.cur := rfl

/-- The assignment leaves the message's tags and payload as they were (R123). -/
theorem State.assignSequence_msg (e : Nat) :
    (s.assignSequence e).msg =
      { s.msg with sid := (s.encSlot e).sid, seq := BitVec.ofNat 64 (s.encSlot e).seq } := rfl

/-- The assignment counts in slot `e` alone (R123). -/
theorem State.assignSequence_enc (e : Nat) :
    (s.assignSequence e).enc = s.enc.set e { s.encSlot e with seq := (s.encSlot e).seq + 1 } := rfl

/-- The construction writes slot `e` and counts the identity (R121). -/
theorem State.constructEncoder_eq (e : Nat) :
    s.constructEncoder e =
      { s with
        enc := s.enc.set e { valid := true, sid := s.idctr, seq := 0, key := s.keyin }
        idctr := s.idctr + 1 } := rfl

/-- A constructed encoder's slot is one of the slots State holds. -/
theorem State.lt_of_encSlot_valid (e : Nat) (h : (s.encSlot e).valid = true) : e < s.enc.length := by
  by_contra hn
  rw [State.encSlot, List.getElem?_eq_none (by omega)] at h
  simp at h

/-- A constructed decoder's slot is one of the slots State holds. -/
theorem State.lt_of_decSlot_valid (d : Nat) (h : (s.decSlot d).valid = true) : d < s.dec.length := by
  by_contra hn
  rw [State.decSlot, List.getElem?_eq_none (by omega)] at h
  simp at h

/-- After the assignment the slot's key and identity are what they were. -/
theorem State.encSlot_assignSequence_key (e : Nat) (h : (s.encSlot e).valid = true) :
    ((s.assignSequence e).encSlot e).key = (s.encSlot e).key := by
  have hl := s.lt_of_encSlot_valid e h
  simp only [State.assignSequence]
  rw [State.encSlot_setEncSlot_self _ _ _ (by simpa using hl)]

end Sys2Proof.Machine
end

