-- ==== Sys2Proof/Laws/PerInstr.lean ====
section
/-! SUPPORT. The family of facts stated for every command, one lemma per constructor of `Instr`. -/

namespace Sys2Proof.Laws.EncodingFields

/-- The word of a well-formed command has its operation code in bits 15:8 and its slot index in bits 7:0, and the decoder
reads these two fields from it (R77, R78). -/
def Statement (i : Instr) : Prop :=
  i.WellFormed → (encode i).toNat = i.op.toNat * 256 + i.slot ∧ opOf (encode i) = i.op ∧
    (slotOf (encode i)).toNat = i.slot

theorem of_slot (i : Instr) (h : i.slot < 256) :
    (encode i).toNat = i.op.toNat * 256 + i.slot ∧ opOf (encode i) = i.op ∧ (slotOf (encode i)).toNat = i.slot := by
  have hs : (BitVec.ofNat 8 i.slot).toNat = i.slot := by
    rw [BitVec.toNat_ofNat, Nat.mod_eq_of_lt (by omega)]
  refine ⟨?_, opOf_append _ _, ?_⟩
  · rw [Sys2Proof.encode, append_toNat, hs]
  · rw [Sys2Proof.encode, slotOf_append, hs]

theorem crc16 : Statement .crc16 := fun _ => of_slot _ (by decide)
theorem encNew (e : Nat) : Statement (.encNew e) := fun h => of_slot _ h
theorem encode (e : Nat) : Statement (.encode e) := fun h => of_slot _ h
theorem decNew (d : Nat) : Statement (.decNew d) := fun h => of_slot _ h
theorem decode (d : Nat) : Statement (.decode d) := fun h => of_slot _ h
theorem tstIdrst : Statement .tstIdrst := fun _ => of_slot _ (by decide)

end Sys2Proof.Laws.EncodingFields
end

