-- ==== Sys2Proof/Laws/Phases.lean ====
section
/-! SUPPORT. What each phase of a command does, said once: where its test fails, the command completes; where it passes,
the next phase runs (R24). A proof about a command rewrites with these instead of unfolding the phases. -/

namespace Sys2Proof.Machine

/-! ### The commands of one phase, and `CRC16` -/

theorem runEncNew_badSlot (e : Nat) (s : State) (h : s.build.nEnc ≤ e) :
    runEncNew e s = ((Run.start s).enter .n0).complete .badSlot := if_pos h

theorem runEncNew_idExhausted (e : Nat) (s : State) (h₁ : e < s.build.nEnc)
    (h₂ : s.idctr = 2 ^ (8 * s.build.w.bytes)) :
    runEncNew e s = ((Run.start s).enter .n0).complete .idExhausted := by
  unfold runEncNew
  rw [if_neg (not_le.2 h₁)]
  exact if_pos h₂

theorem runEncNew_ok (e : Nat) (s : State) (h₁ : e < s.build.nEnc) (h₂ : s.idctr ≠ 2 ^ (8 * s.build.w.bytes)) :
    runEncNew e s = (((Run.start s).enter .n0).upd fun t => t.constructEncoder e).complete .ok := by
  unfold runEncNew
  rw [if_neg (not_le.2 h₁)]
  exact if_neg h₂

theorem runDecNew_badSlot (d : Nat) (s : State) (h : s.build.nDec ≤ d) :
    runDecNew d s = ((Run.start s).enter .n0).complete .badSlot := if_pos h

theorem runDecNew_ok (d : Nat) (s : State) (h : d < s.build.nDec) :
    runDecNew d s =
      (((Run.start s).enter .n0).upd fun t => t.setDecSlot d { valid := true, key := t.keyin }).complete .ok :=
  if_neg (not_le.2 h)

theorem runTstIdrst_illegal (s : State) (h : s.build.testEn = false) :
    runTstIdrst s = ((Run.start s).enter .n0).complete .illegalCmd := if_pos h

theorem runTstIdrst_ok (s : State) (h : s.build.testEn = true) :
    runTstIdrst s = (((Run.start s).enter .n0).upd fun t => t.setIdctr 0).complete .ok := if_neg (by simp [h])

theorem runCrc16_range (s : State) (h : s.plen < s.off.toNat + s.clen.toNat) :
    runCrc16 s = ((Run.start s).enter .c0).complete .range := if_pos h

theorem runCrc16_ok (s : State) (h : s.off.toNat + s.clen.toNat ≤ s.plen) :
    runCrc16 s = crc16C1 ((Run.start s).enter .c0) := if_neg (not_lt.2 h)

/-! ### `ENCODE` -/

theorem runEncode_badSlot (e : Nat) (s : State) (h : s.build.nEnc ≤ e ∨ (s.encSlot e).valid = false) :
    runEncode e s = ((Run.start s).enter .e0).complete .badSlot := if_pos h

theorem runEncode_seqExhausted (e : Nat) (s : State) (h₁ : e < s.build.nEnc) (h₂ : (s.encSlot e).valid = true)
    (h₃ : (s.encSlot e).seq = seqLimit) : runEncode e s = ((Run.start s).enter .e0).complete .seqExhausted := by
  unfold runEncode
  rw [if_neg (by simp [h₁, h₂]), if_pos h₃]

theorem runEncode_admitted (e : Nat) (s : State) (h₁ : e < s.build.nEnc) (h₂ : (s.encSlot e).valid = true)
    (h₃ : (s.encSlot e).seq ≠ seqLimit) : runEncode e s = encodeE1 e ((Run.start s).enter .e0) := by
  unfold runEncode
  rw [if_neg (by simp [h₁, h₂]), if_neg h₃]

theorem encodeE1_eq (e : Nat) (r : Run) :
    encodeE1 e r = encodeE2 e ((r.enter .e1).upd fun s => s.assignSequence e) := rfl

theorem encodeE2_fail (e : Nat) (r : Run) (h : portSer r.state.build r.state.msg.pay = none) :
    encodeE2 e r = ((r.enter .e2).called (.ser r.state.msg.pay)).raiseEncodeFailure := by
  simp only [encodeE2, h]

theorem encodeE2_ok (e : Nat) (r : Run) (plain : Bytes)
    (h : portSer r.state.build r.state.msg.pay = some plain) :
    encodeE2 e r = encodeE3 e plain ((r.enter .e2).called (.ser r.state.msg.pay)) := by
  simp only [encodeE2, h]

theorem encodeE3_fail (e : Nat) (plain : Bytes) (r : Run)
    (h : portEncrypt r.state.build (r.state.encSlot e).key plain = none) :
    encodeE3 e plain r = ((r.enter .e3).called (.encrypt (r.state.encSlot e).key plain)).raiseEncodeFailure := by
  simp only [encodeE3, h]

theorem encodeE3_ok (e : Nat) (plain body : Bytes) (r : Run)
    (h : portEncrypt r.state.build (r.state.encSlot e).key plain = some body) :
    encodeE3 e plain r = encodeE4 body ((r.enter .e3).called (.encrypt (r.state.encSlot e).key plain)) := by
  simp only [encodeE3, h]

theorem encodeE4_fail (body : Bytes) (r : Run)
    (h : r.state.build.bufMax < 25 + r.state.build.w.bytes + body.length) :
    encodeE4 body r = (r.enter .e4).raiseEncodeFailure := if_pos h

theorem encodeE4_ok (body : Bytes) (r : Run)
    (h : 25 + r.state.build.w.bytes + body.length ≤ r.state.build.bufMax) :
    encodeE4 body r = encodeE5 body (r.enter .e4) := if_neg (not_lt.2 h)

/-- The state after the three writing phases, but for the packet buffer, which `State.writeHeader_pkt`,
`State.writeMiddle_pkt` and `State.writeCheck2_pkt` say. -/
theorem encodeE5_state (body : Bytes) (r : Run) :
    (encodeE5 body r).state =
      (((((((r.state.setPh .e5).writeHeader body.length).setPh .e6).writeMiddle body).setPh .e7).writeCheck2
        body.length).setPlen (25 + r.state.build.w.bytes + body.length)).finish .ok := by
  simp only [encodeE5, encodeE6, encodeE7, Run.complete_state, Run.upd_state, Run.enter_state, State.wBytes_eq,
    State.setPh_build, State.writeMiddle_build, State.writeHeader_build]

/-- The three writing phases are entered in order and call no collaborator. -/
theorem encodeE5_events (body : Bytes) (r : Run) :
    (encodeE5 body r).events = r.events ++ [.phase .e5] ++ [.phase .e6] ++ [.phase .e7] := rfl

/-! ### `DECODE` -/

theorem runDecode_badSlot (d : Nat) (s : State) (h : s.build.nDec ≤ d ∨ (s.decSlot d).valid = false) :
    runDecode d s = ((Run.start s).enter .d0).complete .badSlot := if_pos h

theorem runDecode_admitted (d : Nat) (s : State) (h₁ : d < s.build.nDec) (h₂ : (s.decSlot d).valid = true) :
    runDecode d s = decodeD1 d ((Run.start s).enter .d0) := by
  unfold runDecode
  rw [if_neg (by simp [h₁, h₂])]

theorem decodeD1_fail (d : Nat) (r : Run) (h : r.state.tooShort = true) :
    decodeD1 d r = (r.enter .d1).raiseInvalidPacket := if_pos h

theorem decodeD1_ok (d : Nat) (r : Run) (h : r.state.tooShort = false) :
    decodeD1 d r = decodeD2 d (r.enter .d1) := if_neg (by simp [h])

theorem decodeD2_fail (d : Nat) (r : Run) (h : r.state.magicWrong = true) :
    decodeD2 d r = ((r.enter .d2).reads atMagic 1).raiseInvalidPacket := if_pos h

theorem decodeD2_ok (d : Nat) (r : Run) (h : r.state.magicWrong = false) :
    decodeD2 d r = decodeD3 d ((r.enter .d2).reads atMagic 1) := if_neg (by simp [h])

theorem decodeD3_fail (d : Nat) (r : Run) (h : r.state.check1Wrong = true) :
    decodeD3 d r =
      (((r.enter .d3).reads 0 (13 + r.state.wBytes)).reads (atCheck1 r.state.wBytes) 2).raiseInvalidPacket := if_pos h

theorem decodeD3_ok (d : Nat) (r : Run) (h : r.state.check1Wrong = false) :
    decodeD3 d r =
      decodeD4 d (((r.enter .d3).reads 0 (13 + r.state.wBytes)).reads (atCheck1 r.state.wBytes) 2) :=
  if_neg (by simp [h])

theorem decodeD4_fail (d : Nat) (r : Run) (h : r.state.totalField ≠ r.state.plen) :
    decodeD4 d r = ((r.enter .d4).reads (atTotal r.state.wBytes) 4).raiseInvalidPacket := if_pos h

theorem decodeD4_ok (d : Nat) (r : Run) (h : r.state.totalField = r.state.plen) :
    decodeD4 d r =
      decodeD5 d (r.state.plen - minLen r.state.wBytes) ((r.enter .d4).reads (atTotal r.state.wBytes) 4) := by
  unfold decodeD4
  rw [if_neg (not_not.2 h), h]

theorem decodeD5_fail (d l : Nat) (r : Run) (h : r.state.check2Wrong l = true) :
    decodeD5 d l r =
      (((r.enter .d5).reads (atGrp r.state.wBytes) (8 + l)).reads (atCheck2 r.state.wBytes l) 2).raiseInvalidPacket :=
  if_pos h

theorem decodeD5_ok (d l : Nat) (r : Run) (h : r.state.check2Wrong l = false) :
    decodeD5 d l r =
      decodeD6 d l (((r.enter .d5).reads (atGrp r.state.wBytes) (8 + l)).reads (atCheck2 r.state.wBytes l) 2) :=
  if_neg (by simp [h])

theorem decodeD6_fail (d l : Nat) (r : Run)
    (h : portDecrypt r.state.build (r.state.decSlot d).key (r.state.bodyField l) = none) :
    decodeD6 d l r = (((r.enter .d6).reads (atBody r.state.wBytes) l).called
      (.decrypt (r.state.decSlot d).key (r.state.bodyField l))).raiseInvalidPacket := by
  simp only [decodeD6, h]

theorem decodeD6_ok (d l : Nat) (r : Run) (plain : Bytes)
    (h : portDecrypt r.state.build (r.state.decSlot d).key (r.state.bodyField l) = some plain) :
    decodeD6 d l r = decodeD7 plain (((r.enter .d6).reads (atBody r.state.wBytes) l).called
      (.decrypt (r.state.decSlot d).key (r.state.bodyField l))) := by
  simp only [decodeD6, h]

theorem decodeD7_fail (plain : Bytes) (r : Run) (h : portDes r.state.build plain = none) :
    decodeD7 plain r = ((r.enter .d7).called (.des plain)).raiseInvalidPacket := by
  simp only [decodeD7, Run.called_state, Run.enter_state, State.setPh_build, h]

theorem decodeD7_ok (plain : Bytes) (r : Run) (pay : Payload) (h : portDes r.state.build plain = some pay) :
    decodeD7 plain r = decodeD8 pay ((r.enter .d7).called (.des plain)) := by
  simp only [decodeD7, Run.called_state, Run.enter_state, State.setPh_build, h]

theorem decodeD8_eq (pay : Payload) (r : Run) :
    decodeD8 pay r = ((r.enter .d8).upd fun s => s.commitMessage pay).complete .ok := rfl

/-! ### What the tests of `DECODE` read: the buffer, `PLEN` and the build, not the phase or the cursor -/

variable (s : State)

@[simp] theorem State.tooShort_setPh (p : Phase) : (s.setPh p).tooShort = s.tooShort := rfl
@[simp] theorem State.magicWrong_setPh (p : Phase) : (s.setPh p).magicWrong = s.magicWrong := rfl
@[simp] theorem State.check1Wrong_setPh (p : Phase) : (s.setPh p).check1Wrong = s.check1Wrong := rfl
@[simp] theorem State.totalField_setPh (p : Phase) : (s.setPh p).totalField = s.totalField := rfl
@[simp] theorem State.check2Wrong_setPh (p : Phase) (l : Nat) : (s.setPh p).check2Wrong l = s.check2Wrong l := rfl
@[simp] theorem State.bodyField_setPh (p : Phase) (l : Nat) : (s.setPh p).bodyField l = s.bodyField l := rfl
@[simp] theorem State.encSlot_setPh (p : Phase) (e : Nat) : (s.setPh p).encSlot e = s.encSlot e := rfl
@[simp] theorem State.decSlot_setPh (p : Phase) (d : Nat) : (s.setPh p).decSlot d = s.decSlot d := rfl
@[simp] theorem State.magicWrong_advance (a n : Nat) : (s.advance a n).magicWrong = s.magicWrong := rfl
@[simp] theorem State.check1Wrong_advance (a n : Nat) : (s.advance a n).check1Wrong = s.check1Wrong := rfl
@[simp] theorem State.totalField_advance (a n : Nat) : (s.advance a n).totalField = s.totalField := rfl
@[simp] theorem State.check2Wrong_advance (a n l : Nat) : (s.advance a n).check2Wrong l = s.check2Wrong l := rfl
@[simp] theorem State.bodyField_advance (a n l : Nat) : (s.advance a n).bodyField l = s.bodyField l := rfl
@[simp] theorem State.decSlot_advance (a n d : Nat) : (s.advance a n).decSlot d = s.decSlot d := rfl

/-! ### A completion forgets the phase and the cursor, and the effects of a command do not read them -/

@[simp] theorem State.finish_setPh (p : Phase) (c : Completion) : (s.setPh p).finish c = s.finish c := rfl
@[simp] theorem State.finish_advance (a n : Nat) (c : Completion) : (s.advance a n).finish c = s.finish c := rfl
@[simp] theorem State.commitMessage_of_setPh (p : Phase) (pay : Payload) :
    (s.setPh p).commitMessage pay = (s.commitMessage pay).setPh p := rfl
@[simp] theorem State.commitMessage_of_advance (a n : Nat) (pay : Payload) :
    (s.advance a n).commitMessage pay = (s.commitMessage pay).advance a n := rfl
@[simp] theorem State.assignSequence_of_setPh (p : Phase) (e : Nat) :
    (s.setPh p).assignSequence e = (s.assignSequence e).setPh p := rfl
@[simp] theorem State.constructEncoder_of_setPh (p : Phase) (e : Nat) :
    (s.setPh p).constructEncoder e = (s.constructEncoder e).setPh p := rfl
@[simp] theorem State.setDecSlot_of_setPh (p : Phase) (d : Nat) (x : DecSlot) :
    (s.setPh p).setDecSlot d x = (s.setDecSlot d x).setPh p := rfl
@[simp] theorem State.setIdctr_of_setPh (p : Phase) (n : Nat) : (s.setPh p).setIdctr n = (s.setIdctr n).setPh p := rfl
@[simp] theorem State.setCrc_of_setPh (p : Phase) (v : BitVec 16) : (s.setPh p).setCrc v = (s.setCrc v).setPh p := rfl
@[simp] theorem State.setCrc_of_advance (a n : Nat) (v : BitVec 16) :
    (s.advance a n).setCrc v = (s.setCrc v).advance a n := rfl

/-! ### Reads of the buffer do not depend on the phase or the cursor -/

@[simp] theorem State.pktByte_setPh (p : Phase) (a : Nat) : (s.setPh p).pktByte a = s.pktByte a := rfl
@[simp] theorem State.memReadBytes_setPh (p : Phase) (a n : Nat) :
    (s.setPh p).memReadBytes a n = s.memReadBytes a n := rfl
@[simp] theorem State.memRead_setPh (p : Phase) (a n : Nat) : (s.setPh p).memRead a n = s.memRead a n := rfl
@[simp] theorem State.crcOver_setPh (p : Phase) (a n : Nat) : (s.setPh p).crcOver a n = s.crcOver a n := rfl
@[simp] theorem State.pktByte_advance (b m a : Nat) : (s.advance b m).pktByte a = s.pktByte a := rfl
@[simp] theorem State.memReadBytes_advance (b m a n : Nat) :
    (s.advance b m).memReadBytes a n = s.memReadBytes a n := rfl
@[simp] theorem State.memRead_advance (b m a n : Nat) : (s.advance b m).memRead a n = s.memRead a n := rfl
@[simp] theorem State.crcOver_advance (b m a n : Nat) : (s.advance b m).crcOver a n = s.crcOver a n := rfl

/-! ### What each test of `DECODE` says when it passes -/

theorem State.tooShort_eq_false : s.tooShort = false ↔ 25 + s.build.w.bytes ≤ s.plen := by
  unfold State.tooShort
  rw [decide_eq_false_iff_not, not_lt]
  rfl

theorem State.magicWrong_eq_false : s.magicWrong = false ↔ s.pktByte 0 = 0x13 := by
  have h : s.memRead atMagic 1 = (s.pktByte 0).toNat := by
    simp [State.memRead, State.memReadBytes, atMagic, ube_cons]
  unfold State.magicWrong
  rw [decide_eq_false_iff_not, not_not, h, BitVec.toNat_inj]
  rfl

theorem State.check1Wrong_eq_false : s.check1Wrong = false ↔
    (s.crcOver 0 (13 + s.build.w.bytes)).toNat = s.memRead (13 + s.build.w.bytes) 2 := by
  unfold State.check1Wrong
  rw [decide_eq_false_iff_not, not_not]
  rfl

theorem State.totalField_eq : s.totalField = s.memRead (9 + s.build.w.bytes) 4 := rfl

theorem State.check2Wrong_eq_false (l : Nat) : s.check2Wrong l = false ↔
    (s.crcOver (15 + s.build.w.bytes) (8 + l)).toNat = s.memRead (23 + s.build.w.bytes + l) 2 := by
  unfold State.check2Wrong
  rw [decide_eq_false_iff_not, not_not]
  rfl

theorem State.bodyField_eq (l : Nat) : s.bodyField l = s.memReadBytes (23 + s.build.w.bytes) l := rfl

end Sys2Proof.Machine
end

