-- ==== Sys2Proof/Laws/Pseudo.lean ====
section
/-! SUPPORT. What a host action, a run of them and the conditions of a pseudo-command do, each said once (R84). -/

namespace Sys2Proof.Machine

/-- Between commands a host action taken now is that action on the block, whatever the host has planned. -/
theorem hostDo_of_idle (a : HostAct) (s : State) (h : s.ph = .idle) : hostDo a s = hostAct a s :=
  step_of_idle _ a s.host rfl h

/-- A write returns nothing to the host, a read its reply. -/
@[simp] theorem HostAct.returned_wr (r : HostReg) (v : HostVal) (t : State) : (HostAct.wr r v).returned t = [] := rfl

@[simp] theorem HostAct.returned_wrpkt (off : Nat) (b : Bytes) (t : State) : (HostAct.wrpkt off b).returned t = [] := rfl

@[simp] theorem HostAct.returned_rd (r : HostReg) (t : State) : (HostAct.rd r).returned t = t.reply.toList := rfl

@[simp] theorem HostAct.returned_rdpkt (off n : Nat) (t : State) :
    (HostAct.rdpkt off n).returned t = t.reply.toList := rfl

@[simp] theorem State.setReply_setReply (s : State) (x y : Option HostVal) :
    (s.setReply x).setReply y = s.setReply y := rfl

@[simp] theorem hostDoAll_nil (x : Session) : hostDoAll [] x = .next x := rfl

/-- The first of some host actions has a next state: the others follow in it. -/
theorem hostDoAll_cons (a : HostAct) (as : List HostAct) (s t : State) (vs : List HostVal) (h : s.ph = .idle)
    (ht : hostAct a s = .next t) :
    hostDoAll (a :: as) ⟨s, vs⟩ = hostDoAll as ⟨t, vs ++ a.returned t⟩ := by
  simp only [hostDoAll, hostDo_of_idle a s h, ht]

@[simp] theorem thenDo_next (x : Session) (acts : List HostVal → List HostAct) :
    thenDo (.next x) acts = hostDoAll (acts x.read) x := rfl

@[simp] theorem answered_next (x : Session) : answered (.next x) = .next (x.state, .reads x.read) := rfl

/-- What a pseudo-command does with bytes it can load, and with others. -/
theorem ifLoadable_of_le (s : State) (bytes : Bytes) (o : Host.Outcome Session Fault Refusal)
    (h : bytes.length ≤ s.build.bufMax) : ifLoadable s bytes o = answered o :=
  if_neg (Nat.not_lt.mpr h)

theorem ifLoadable_of_lt (s : State) (bytes : Bytes) (o : Host.Outcome Session Fault Refusal)
    (h : s.build.bufMax < bytes.length) : ifLoadable s bytes o = .next (s, .rejectedPacket) :=
  if_pos h

/-- A pseudo-command runs with a slot index that has a command word, and is refused with any other (log 24). -/
theorem ifHasWord_of_wellFormed (i : Instr) (o : Host.Outcome Session Fault Refusal) (h : i.WellFormed) :
    ifHasWord i o = o := by
  cases i <;> simp_all [ifHasWord, Instr.wellFormed]

theorem ifHasWord_of_not_wellFormed (i : Instr) (o : Host.Outcome Session Fault Refusal) (h : ¬ i.WellFormed) :
    ifHasWord i o = .refused (.hostValueUnfit .cmd) := by
  cases i <;> simp_all [ifHasWord, Instr.wellFormed]

/-- The word of a command, written by the host, runs the command. -/
theorem hostAct_writeCmd (i : Instr) (s : State) (h : decode (encode i) = .ok i) :
    hostAct (writeCmd i) s = exec i s := by
  simp only [writeCmd, hostAct, hostWrite_cmd, issue_of_ok _ i s h]

@[simp] theorem returned_writeCmd (i : Instr) (t : State) : (writeCmd i).returned t = [] := rfl

/-- A register the host may read gives it its value. -/
theorem hostAct_rd (r : HostReg) (v : HostVal) (s : State) (h : hostValue r s = some v) :
    hostAct (.rd r) s = .next (s.setReply (some v)) := by
  simp only [hostAct, hostRead, h]

/-- What the host has read before does not change what a register reads as. -/
@[simp] theorem hostValue_setReply (r : HostReg) (s : State) (x : Option HostVal) :
    hostValue r (s.setReply x) = hostValue r s := by
  cases r <;> rfl

/-- A read that comes first gives the register's value, and the others follow. -/
theorem hostDoAll_rd (r : HostReg) (v : HostVal) (as : List HostAct) (s : State) (vs : List HostVal)
    (h : s.ph = .idle) (hv : hostValue r s = some v) :
    hostDoAll (.rd r :: as) ⟨s, vs⟩ = hostDoAll as ⟨s.setReply (some v), vs ++ [v]⟩ :=
  hostDoAll_cons _ _ _ _ _ h (hostAct_rd r v s hv)

/-- The reads that wait for `OK` come exactly with it. -/
theorem onOk_ok (acts : List HostAct) (vs : List HostVal) : onOk acts (.nat 0 :: vs) = acts := rfl

theorem onOk_failed (acts : List HostAct) (n : Nat) (vs : List HostVal) (h : n ≠ 0) :
    onOk acts (.nat n :: vs) = [] := if_neg h

end Sys2Proof.Machine
end

