-- ==== Sys2Proof/Tests/Slice0.lean ====
section
/-! SUPPORT. Tests on fixed values: the checks of WellFormed, words written out from the table of R78, vectors of
95_test_vectors.md (each theorem names its vector), and for every statement with hypotheses a state and operands that
meet them. -/

namespace Sys2Proof.Tests

open Sys2Proof Sys2Proof.Machine

-- One theorem after another: elaborated side by side, so many kernel evaluations need a great many thread stacks.
set_option Elab.async false

/-! ### Small states -/

def bytes (l : List Nat) : Bytes := l.map (BitVec.ofNat 8)
def text (l : List Nat) : Text := l.map Char.ofNat

/-- The build of 95_test_vectors.md with `W = 1`. -/
def b1 : Build := { Config.build with collab := .testFixtures }
/-- The same with `W = 4`. -/
def b4 : Build := { b1 with w := .four }

def k0 : Bytes := List.replicate 16 0
def k1 : Bytes := bytes [0x10, 0x11, 0x12, 0x13, 0x14, 0x15, 0x16, 0x17, 0x18, 0x19, 0x1A, 0x1B, 0x1C, 0x1D, 0x1E, 0x1F]

/-- The payload of scenario S1: testUsername, testPassword. -/
def creds : Payload :=
  .credentials (text [0x74, 0x65, 0x73, 0x74, 0x55, 0x73, 0x65, 0x72, 0x6E, 0x61, 0x6D, 0x65])
    (text [0x74, 0x65, 0x73, 0x74, 0x50, 0x61, 0x73, 0x73, 0x77, 0x6F, 0x72, 0x64])

/-- A state as after reset, with `KEYIN` and the fields of the invalid slots written out. -/
def fresh (b : Build) : State :=
  { build := b, off := 0, clen := 0, crc := 0, msg := { sid := 0, seq := 0, grp := 0, sub := 0, pay := none }
    keyin := k0, plen := 0, status := 0, ph := .idle, cur := 0, pkt := [], idctr := 0
    enc := List.replicate b.nEnc { valid := false, sid := 0, seq := 0, key := k0 }
    dec := List.replicate b.nDec { valid := false, key := k0 }, draw := 0, host := [], reply := none }

/-- Encoder and decoder slot 0 constructed with `K0`, and the message of V47. -/
def ready (b : Build) : State :=
  { fresh b with
    enc := (fresh b).enc.set 0 { valid := true, sid := 0, seq := 0, key := k0 }
    dec := (fresh b).dec.set 0 { valid := true, key := k0 }
    idctr := 1, msg := { sid := 9, seq := 9, grp := 12, sub := 75, pay := some creds } }

/-- The state a command leaves. -/
def after (i : Instr) (s : State) : State := (runOf i s).state

theorem exec_after (i : Instr) (s : State) : exec i s = .next (after i s) := by cases i <;> rfl

/-- `PKT[0 : len]` loaded with a packet, `PLEN` its length. -/
def load (s : State) (p : Bytes) : State := (s.memWriteBytes 0 p).setPlen p.length

/-- The host's next action. -/
def doing (s : State) (a : HostAct) : State := s.setHost [a]

/-- V-T2: the serialized and encrypted payload under `K0`. -/
def vT2 : Bytes := bytes [0x0C, 0x74, 0x65, 0x73, 0x74, 0x55, 0x73, 0x65, 0x72, 0x6E, 0x61, 0x6D, 0x65,
  0x0C, 0x74, 0x65, 0x73, 0x74, 0x50, 0x61, 0x73, 0x73, 0x77, 0x6F, 0x72, 0x64, 6, 6, 6, 6, 6, 6]
/-- V20. -/
def v20 : Bytes := bytes [0x13, 0, 0, 0, 0, 0, 0, 0, 0, 0, 0, 0, 0, 0x3A, 0xC0, 0x92, 0, 0, 0, 0x0C, 0, 0, 0, 0x4B] ++
  vT2 ++ bytes [0xAA, 0x65]
/-- V21. -/
def v21 : Bytes := bytes [0x13, 0, 0, 0, 0, 0, 0, 0, 0, 0, 0, 0, 0, 0, 0, 0, 0x3D, 0xE4, 0x3C, 0, 0, 0, 0x0C, 0, 0, 0,
  0x4B] ++ vT2 ++ bytes [0xAA, 0x65]
/-- V25, the empty body. -/
def v25 : Bytes := bytes [0x13, 0, 0, 0, 0, 0, 0, 0, 0, 0, 0, 0, 0, 0x1A, 0x18, 0x93, 0, 0, 0, 0, 0, 0, 0, 0, 0, 0]
/-- The nine ASCII digits of the check values. -/
def digits : Bytes := bytes [0x31, 0x32, 0x33, 0x34, 0x35, 0x36, 0x37, 0x38, 0x39]

/-! ### WellFormed: one ill-formed term for each check, which the check refuses -/

theorem test_wf_encNew_slot : (Instr.encNew 256).wellFormed = false ∧ (Instr.encNew 255).wellFormed = true := by decide
theorem test_wf_encode_slot : (Instr.encode 256).wellFormed = false ∧ (Instr.encode 255).wellFormed = true := by decide
theorem test_wf_decNew_slot : (Instr.decNew 256).wellFormed = false ∧ (Instr.decNew 255).wellFormed = true := by decide
theorem test_wf_decode_slot : (Instr.decode 256).wellFormed = false ∧ (Instr.decode 255).wellFormed = true := by decide
theorem test_wf_no_operand : Instr.crc16.wellFormed = true ∧ Instr.tstIdrst.wellFormed = true := by decide
theorem test_wf_agrees (i : Instr) : i.wellFormed = true ↔ i.WellFormed := by
  cases i <;> simp [Instr.wellFormed, Instr.WellFormed]
theorem test_legal_poly : ¬ Build.Legal { b1 with crcp := { Crcp.arc with poly := 0x8004 } } := by decide
theorem test_legal_keyLen : ¬ Build.Legal { b1 with keyLen := 0 } := by decide
theorem test_legal_bufMax_small : ¬ Build.Legal { b1 with bufMax := 25 } ∧ Build.Legal { b1 with bufMax := 26 } := by
  decide
theorem test_legal_bufMax_large : ¬ Build.Legal { b1 with bufMax := 2 ^ 31 } ∧
    Build.Legal { b1 with bufMax := 2 ^ 31 - 1 } := by decide
theorem test_legal_nEnc : ¬ Build.Legal { b1 with nEnc := 0 } ∧ ¬ Build.Legal { b1 with nEnc := 257 } := by decide
theorem test_legal_nDec : ¬ Build.Legal { b1 with nDec := 0 } ∧ ¬ Build.Legal { b1 with nDec := 257 } := by decide
theorem test_legal_builds : Config.build.Legal ∧ b1.Legal ∧ b4.Legal := by decide

/-! ### Decode: words written out bit by bit from the patterns of R78 -/

theorem test_decode_crc16 : decode 0b0000000100000000 = .ok .crc16 := by decide
theorem test_decode_encNew : decode 0b0000001000000011 = .ok (.encNew 3) := by decide
theorem test_decode_encode : decode 0b0000001110000001 = .ok (.encode 129) := by decide
theorem test_decode_decNew : decode 0b0000010011111111 = .ok (.decNew 255) := by decide
theorem test_decode_decode : decode 0b0000010100000010 = .ok (.decode 2) := by decide
theorem test_decode_tstIdrst : decode 0b0000111100000000 = .ok .tstIdrst := by decide
theorem test_encode_words : encode .crc16 = 0x0100 ∧ encode (.encNew 1) = 0x0201 ∧ encode (.encode 3) = 0x0303 ∧
    encode (.decNew 4) = 0x0404 ∧ encode (.decode 1) = 0x0501 ∧ encode .tstIdrst = 0x0F00 := by decide
/-- V85, V84, V83: words that are no command. -/
theorem test_decode_illegal : ∀ w ∈ [0x0000, 0x0600, 0x0E00, 0x1000, 0xFF00, 0xFFFF, 0x0101, 0x0F01],
    (decode (BitVec.ofNat 16 w)).isOk = false := by decide
theorem test_decodeTableWord : decodeTableWord 16 0x0100 = some .crc16 ∧ decodeTableWord 16 0x02FF = some (.encNew 255) ∧
    decodeTableWord 16 0x0300 = some (.encode 0) ∧ decodeTableWord 16 0x0400 = some (.decNew 0) ∧
    decodeTableWord 16 0x0501 = some (.decode 1) ∧ decodeTableWord 16 0x0F00 = some .tstIdrst ∧
    decodeTableWord 16 0x10100 = none ∧ decodeTableWord 16 0x0600 = none := by decide
theorem test_text : (Instr.encNew 12).text = "ENC.NEW 12" ∧ Instr.tstIdrst.text = "TST.IDRST" := by decide

/-! ### The CRC function: V1 to V13, V14 to V19 -/

theorem test_crc_vectors : crc16 Crcp.arc [] = 0x0000 ∧ crc16 Crcp.arc [0x01] = 0xC0C1 ∧
    crc16 Crcp.arc [0x80] = 0xA001 ∧ crc16 Crcp.arc [0xFF] = 0x4040 ∧ crc16 Crcp.arc [0x13] = 0xCD41 ∧
    crc16 Crcp.arc [0x41, 0x42, 0x43] = 0x4521 ∧ crc16 Crcp.arc [0x01, 0x00] = 0x9001 ∧
    crc16 Crcp.arc (bytes (List.range 16)) = 0x170A := by decide +kernel
theorem test_crc_arc_form : crc16Arc digits = 0xBB3D ∧ crc16Arc [0x41, 0x42] = 0x61B0 := by decide +kernel
theorem test_crc_variants : crc16 Crcp.modbus [0x13] = 0x8DFE ∧ crc16 Crcp.ccittFalse [0x13] = 0xC3A2 ∧
    crc16 Crcp.xmodem [0x13] = 0x2252 ∧ crc16 Crcp.kermit [0x13] = 0x221A ∧ crc16 Crcp.x25 [0x00] = 0xF078 ∧
    crc16 Crcp.x25 [] = 0x0000 := by decide +kernel

/-! ### Framing and field extraction: V20, V23, V24, V25 -/

theorem test_frame_v20 : frame Crcp.arc 1 0 0 12 75 vT2 = v20 := by decide +kernel
theorem test_frame_v24 : frame Crcp.arc 4 0xDEADBEEF (2 ^ 64 - 1) (2 ^ 31 - 1) (-2) (bytes (List.range' 0xA0 16)) =
    bytes [0x13, 0xDE, 0xAD, 0xBE, 0xEF, 0xFF, 0xFF, 0xFF, 0xFF, 0xFF, 0xFF, 0xFF, 0xFF, 0, 0, 0, 0x2D, 0x68, 0x09,
      0x7F, 0xFF, 0xFF, 0xFF, 0xFF, 0xFF, 0xFF, 0xFE] ++ bytes (List.range' 0xA0 16) ++ bytes [0xBC, 0xA7] := by
  decide +kernel
theorem test_fields_v23 : frameFields 1 (bytes [0x13, 0xAB, 1, 2, 3, 4, 5, 6, 7, 8, 0, 0, 0, 0x2A, 0xDB, 0x7B,
      0xFF, 0xFF, 0xFF, 0xFF, 0x80, 0, 0, 0] ++ bytes (List.range' 0xA0 16) ++ bytes [0xE3, 0xDB]) =
    { sid := 171, seq := 72623859790382856, tot := 42, c1 := 0xDB7B, grp := -1, sub := -2147483648
      body := bytes (List.range' 0xA0 16), c2 := 0xE3DB } := by decide +kernel
theorem test_frame_v25 : frame Crcp.arc 1 0 0 0 0 [] = v25 := by decide +kernel

/-! ### The test collaborators: V-T1 to V-T10 -/

theorem test_ts_tc : (portSer b1 (some creds)).bind (portEncrypt b1 k0) = some vT2 := by
  decide +kernel
theorem test_tc_k1 : portEncrypt b1 k1 (bytes [0x01, 0x61, 0x00]) = some (bytes [0x11, 0x70, 0x12, 0x1E,
    0x19, 0x18, 0x1B, 0x1A, 0x15, 0x14, 0x17, 0x16, 0x11, 0x10, 0x13, 0x12]) := by decide +kernel
theorem test_ts_too_long : portSer b1 (some (.credentials (List.replicate 256 'u') ['s'])) = none := by
  decide +kernel
theorem test_tc_ts_reject : portDecrypt b1 k0 [] = none ∧
    portDecrypt b1 k0 (List.replicate 15 0) = none ∧
    portDes b1 (bytes [0x05, 0x41, 0x42]) = none := by decide +kernel
/-- Texts outside ASCII: two, three and four bytes of UTF-8, and a surrogate, an overlong form and a cut one refused. -/
theorem test_utf8 : utf8 (text [0xE9, 0x20AC, 0x1F600]) = bytes [0xC3, 0xA9, 0xE2, 0x82, 0xAC, 0xF0, 0x9F, 0x98, 0x80] ∧
    utf8Text (bytes [0xC3, 0xA9, 0xE2, 0x82, 0xAC, 0xF0, 0x9F, 0x98, 0x80]) = some (text [0xE9, 0x20AC, 0x1F600]) ∧
    utf8Text (bytes [0xED, 0xA0, 0x80]) = none ∧ utf8Text (bytes [0xC1, 0x81]) = none ∧
    utf8Text (bytes [0xE2, 0x82]) = none := by decide +kernel

/-! ### The commands, one step each -/

/-- V34 and the ranges at and behind `PLEN`: V36, V37, V40. -/
def crcState (off clen : BitVec 32) : State := { load (fresh b1) v20 with off := off, clen := clen }
theorem test_crc16_body : (after .crc16 (crcState 24 32)).crc = 0xB228 := by decide +kernel
theorem test_crc16_edges : (after .crc16 (crcState 58 0)).status = 0x00 ∧ (after .crc16 (crcState 58 1)).status = 0x12 ∧
    (after .crc16 (crcState 0xFFFFFFFF 1)).status = 0x12 := by decide +kernel

/-- V42, V44: construction in a fresh slot and in one already valid. -/
theorem test_encNew : (after (.encNew 0) (fresh b1)).encSlot 0 = { valid := true, sid := 0, seq := 0, key := k0 } ∧
    (after (.encNew 0) { ready b1 with idctr := 2 }).encSlot 0 = { valid := true, sid := 2, seq := 0, key := k0 } := by
  decide +kernel
/-- V45, V46. -/
theorem test_encNew_faults : (after (.encNew 4) (fresh b1)).status = 0x11 ∧
    (after (.encNew 0) { ready b1 with idctr := 256 }).status = 0x13 := by decide +kernel

/-- V47. -/
theorem test_encode_v47 : (after (.encode 0) (ready b1)).memReadBytes 0 58 = v20 ∧
    (after (.encode 0) (ready b1)).msg = { sid := 0, seq := 0, grp := 12, sub := 75, pay := some creds } := by
  decide +kernel
/-- V49. -/
theorem test_encode_v49 : (after (.encode 0) (ready b4)).memReadBytes 0 61 = v21 := by decide +kernel

theorem test_decNew : (after (.decNew 0) (fresh b1)).decSlot 0 = { valid := true, key := k0 } ∧
    (after (.decNew 4) (fresh b1)).status = 0x11 := by decide +kernel

/-- V57, V58. -/
theorem test_decode_accepts :
    (after (.decode 0) (load (ready b1) v20)).msg = { sid := 0, seq := 0, grp := 12, sub := 75, pay := some creds } ∧
      (after (.decode 0) (load (ready b4) v21)).status = 0x00 := by decide +kernel
/-- V62, V64, V70, V76, V78: short, trailing byte, changed checksum, empty body, the other width. -/
theorem test_decode_rejects : ∀ s ∈ [load (ready b1) (v20.take 25), load (ready b1) (v20 ++ [0]),
      load (ready b1) (v20.set 14 0x3F), load (ready b1) v25, load (ready b4) v20],
    (after (.decode 0) s).status = 0x01 ∧ (after (.decode 0) s).msg = s.msg := by decide +kernel

/-- V81, V82. -/
theorem test_tstIdrst : (after .tstIdrst { ready b1 with build := { b1 with testEn := true } }).idctr = 0 ∧
    (after .tstIdrst (ready b1)).status = 0x10 ∧ (after .tstIdrst (ready b1)).idctr = 1 := by decide +kernel

/-- A step runs the word the host writes next (R22), as `withFetchWord` puts it there. -/
theorem test_step_withFetchWord :
    step ((fresh b1).withFetchWord 16 0x0201) = .next (after (.encNew 1) (fresh b1)) := rfl

/-! ### The pseudo-commands and the payload type (R84, R6) -/

/-- The same in a build with `BUF_MAX = n`. -/
def inBuffer (n : Nat) : State := { ready b1 with build := { b1 with bufMax := n } }

/-- What a pseudo-command answers. -/
def answerOf (o : Host.Outcome (State × Answer) Fault Refusal) : Option Answer :=
  match o with
  | .next x => some x.2
  | .fault _ => none
  | .refused _ => none
/-- V47 through the source's function `encode`, and its packet V20 through `decode` (R84). -/
theorem test_pseudo_encode : answerOf (pseudoEncode 0 12 75 (some creds) (ready b1)) =
    some (.reads [.nat 0, .nat 58, .bytes v20, .nat 0, .nat 0]) := by decide +kernel
theorem test_pseudo_decode : answerOf (pseudoDecode 0 v20 (ready b1)) =
    some (.reads [.nat 0, .nat 0, .nat 0, .int 12, .int 75, .payload (some creds)]) := by decide +kernel
/-- A failed command is not followed by the reads that wait for `OK`; the reads of `CRC16` do not wait (V11). -/
theorem test_pseudo_status : answerOf (pseudoDecode 0 (v20.set 0 0x12) (ready b1)) = some (.reads [.nat 0x01]) ∧
    answerOf (pseudoEncode 4 12 75 (some creds) (ready b1)) = some (.reads [.nat 0x11]) ∧
    answerOf (pseudoCrc16 digits 0 9 (ready b1)) = some (.reads [.nat 0, .nat 0xBB3D]) ∧
    answerOf (pseudoCrc16 digits 0 10 (ready b1)) = some (.reads [.nat 0x12, .nat 0]) := by decide +kernel
theorem test_pseudo_new : answerOf (pseudoNewEncoder 1 k1 (ready b1)) = some (.reads [.nat 0]) ∧
    answerOf (pseudoNewDecoder 4 k1 (ready b1)) = some (.reads [.nat 0x11]) := by decide +kernel
/-- A slot index that has no command word is not reduced to one that has (log 24). -/
theorem test_pseudo_no_word : pseudoEncode 256 12 75 (some creds) (ready b1) = .refused (.hostValueUnfit .cmd) ∧
    pseudoDecode 256 v20 (ready b1) = .refused (.hostValueUnfit .cmd) := ⟨rfl, rfl⟩
/-- Bytes the buffer cannot hold. -/
theorem test_pseudo_rejected : answerOf (pseudoDecode 0 v20 (inBuffer 57)) = some .rejectedPacket ∧
    answerOf (pseudoCrc16 v20 0 0 (inBuffer 57)) = some .rejectedPacket := by decide +kernel
/-- A value that is not of the build's payload type is not written (log 11). -/
theorem test_payload_type : hostWrite .pay (.payload (some (.value 0))) (fresh b1) = .refused (.hostValueUnfit .pay) := by
  rfl

/-! ### For every statement with hypotheses, states and operands that meet them, at the boundary of each clause -/

def testBuild : Build := { b1 with testEn := true }

/-- Encoder 0 has handed out all its numbers but one, or all of them. -/
def atSequence (n : Nat) : State :=
  { ready b1 with enc := (fresh b1).enc.set 0 { valid := true, sid := 0, seq := n, key := k0 } }

/-- The state after V47: the packet of encoder 0 in the buffer. -/
def encoded : State := after (.encode 0) (ready b1)


theorem witness_DecodeOfEncodeGivesTheCommandBack : (Instr.encode 255).WellFormed ∧ Instr.crc16.WellFormed := by decide
theorem witness_EncodeOfDecodedWordGivesTheWordBack : decode 0x05FF = .ok (.decode 255) := by decide
/-- Each of R80's three kinds, at the codes next to the assigned ones, and a legal word. -/
theorem witness_IllegalWordsCompleteWithIllegalCmd :
    (fresh b1).ph = .idle ∧ (doing (fresh b1) (.wr .cmd (.nat (0x0600 : BitVec 16).toNat))).host =
        .wr .cmd (.nat (0x0600 : BitVec 16).toNat) :: [] ∧
      IllegalWord b1 0x0600 ∧ IllegalWord b1 0x00FF ∧ IllegalWord b1 0x1000 ∧ IllegalWord testBuild 0x0101 ∧
      IllegalWord testBuild 0x0FFF ∧ IllegalWord b1 0x0F00 ∧ ¬ IllegalWord testBuild 0x0F00 ∧
      ¬ IllegalWord b1 0x05FF :=
  ⟨rfl, rfl, by decide, by decide, by decide, by decide, by decide, by decide, by decide, by decide⟩
theorem witness_StepRunsTheDecodedCommand :
    (doing (fresh b1) (.wr .cmd (.nat (0x0200 : BitVec 16).toNat))).host = .wr .cmd (.nat (0x0200 : BitVec 16).toNat) :: [] ∧
      (fresh b1).ph = .idle ∧ decode 0x0200 = .ok (.encNew 0) := by decide
theorem witness_FieldsAreStoredBigEndian : 2 ^ 32 - 1 < 2 ^ (8 * 4) ∧ 0 < 4 ∧ 3 < 4 ∧ ([0x13] : Bytes).length = 1 := by
  decide
theorem witness_TwosComplementCodesAreInverse : (-2 : Int) ^ 31 ≤ -2147483648 ∧ (2147483647 : Int) < 2 ^ 31 ∧
    4294967295 < 2 ^ 32 ∧ 2147483647 < 2 ^ 31 := by decide
/-- Three bytes that differ in the 16 bits from bit 4 on. -/
theorem witness_CrcDetectsBurstsUpToSixteenBits : Crcp.arc.Legal ∧ Crcp.x25.Legal ∧
    ([0, 0, 0] : Bytes).length = ([0xF0, 0xFF, 0x0F] : Bytes).length ∧ ([0, 0, 0] : Bytes) ≠ [0xF0, 0xFF, 0x0F] ∧
      ∀ j, j < 4 ∨ 4 + 16 ≤ j →
        (crcBitStream Crcp.arc [0, 0, 0])[j]? = (crcBitStream Crcp.arc [0xF0, 0xFF, 0x0F])[j]? := by
  refine ⟨by decide, by decide, by decide, by decide, fun j h => ?_⟩
  by_cases hj : j < 24
  · revert h
    have : ∀ k : Fin 24, (k.val < 4 ∨ 4 + 16 ≤ k.val) →
        (crcBitStream Crcp.arc [0, 0, 0])[k.val]? = (crcBitStream Crcp.arc [0xF0, 0xFF, 0x0F])[k.val]? := by
      decide +kernel
    exact this ⟨j, hj⟩
  · rw [List.getElem?_eq_none (by simp [crcBitStream]; omega), List.getElem?_eq_none (by simp [crcBitStream]; omega)]
theorem witness_CrcOfEmptyStringAndOfLeadingZeros : Crcp.xmodem.init = 0 := by decide
/-- A payload and a plaintext the ports accept, at which the attached pair keeps its laws. -/
theorem witness_PortsKeepTheirContract :
    (portSer b1 (some creds) = some (vT2.take 26) ∧ portEncrypt b1 k0 (vT2.take 26) = some vT2) ∧
      (payloadHasType b1.payload creds = true ∧
        ∀ s, attachedSer b1.collab creds = some s → attachedDes b1.collab s = some creds) ∧
      ∀ t, attachedEncrypt b1.collab k0 (vT2.take 26) = some t → attachedDecrypt b1.collab k0 t = some (vT2.take 26) := by
  have hs : attachedSer b1.collab creds = some (vT2.take 26) := by decide +kernel
  have he : attachedEncrypt b1.collab k0 (vT2.take 26) = some vT2 := by decide +kernel
  refine ⟨by decide +kernel, ⟨by decide, fun s h => ?_⟩, fun t h => ?_⟩
  · obtain rfl : vT2.take 26 = s := Option.some.inj (hs.symm.trans h)
    decide +kernel
  · obtain rfl : vT2 = t := Option.some.inj (he.symm.trans h)
    decide +kernel
theorem witness_TestCollaboratorsKeepTheContract : (tsSerialize creds).isSome = true ∧
    k0.length = 16 ∧ b1.collab = .testFixtures ∧ b1.payload = .credentials := by decide +kernel
/-- `OFF + CLEN` equal to `PLEN` and one more; `CRC16` with `slot` 1; the worked example. -/
theorem witness_Crc16ComputesTheRangeChecksum :
    (crcState 26 32).off.toNat + (crcState 26 32).clen.toNat = (crcState 26 32).plen ∧
      (crcState 26 33).off.toNat + (crcState 26 33).clen.toNat = (crcState 26 33).plen + 1 ∧
      exec .crc16 (crcState 26 32) = .next (after .crc16 (crcState 26 32)) ∧
      ((0x0101 : BitVec 16).toNat / 256 = 1 ∧ (0x0101 : BitVec 16).toNat % 256 ≠ 0 ∧
        (doing (fresh b1) (.wr .cmd (.nat (0x0101 : BitVec 16).toNat))).host =
          .wr .cmd (.nat (0x0101 : BitVec 16).toNat) :: []) ∧
      (let s := { load (fresh b1) digits with clen := 9 }
       s.build.crcp = Crcp.arc ∧ s.plen = 9 ∧ s.off = 0 ∧ s.clen = 9 ∧
        s.memReadBytes 0 9 = [0x31, 0x32, 0x33, 0x34, 0x35, 0x36, 0x37, 0x38, 0x39]) := by
  refine ⟨by decide +kernel, by decide +kernel, exec_after _ _, by decide +kernel, by decide +kernel⟩
/-- The last slot with one identity left, the first index that names no slot, and no identity left. -/
theorem witness_EncNewConstructsAnEncoder : 3 < b1.nEnc ∧ 255 ≠ 2 ^ (8 * b1.w.bytes) ∧ b1.nEnc ≤ 4 ∧
    ({ ready b1 with idctr := 256 } : State).idctr = 2 ^ (8 * b1.w.bytes) ∧ 255 < 256 := by decide
theorem witness_IdExhaustionLastsUntilResetOrTestReset :
    let s := doing { ready b1 with idctr := 256 } (.rd .status)
    s.idctr = 2 ^ (8 * s.build.w.bytes) ∧ 3 < s.build.nEnc ∧ Instr.crc16 ≠ .tstIdrst ∧ ∃ t, step s = .next t :=
  ⟨by decide, by decide, by decide, _, rfl⟩
theorem witness_SequenceExhaustionLastsUntilResetOrConstruction :
    let s := doing (atSequence (2 ^ 64)) (.rd .status)
    s.EncReady 0 ∧ (s.encSlot 0).seq = 2 ^ 64 ∧ Instr.encode 0 ≠ .encNew 0 ∧ ∃ t, step s = .next t :=
  ⟨by decide, by decide, by decide, _, rfl⟩
/-- The packet of V47 in a buffer it just fills (V52), and with the last sequence number (V54). -/
theorem witness_EncodeWritesTheFrame : ∀ s ∈ [inBuffer 58, atSequence (2 ^ 64 - 1)],
    s.EncReady 0 ∧ (s.encSlot 0).seq ≠ 2 ^ 64 ∧ portSer s.build s.msg.pay = some (vT2.take 26) ∧
      portEncrypt s.build (s.encSlot 0).key (vT2.take 26) = some vT2 ∧
      25 + s.build.w.bytes + vT2.length ≤ s.build.bufMax := by decide +kernel
/-- V50, a key `TC` refuses, V52, V53 and a missing slot, V55. -/
theorem witness_EncodeFailureConsumesASequenceNumber :
    (let s := { ready b1 with msg := (fresh b1).msg }
     s.EncReady 0 ∧ (s.encSlot 0).seq ≠ 2 ^ 64 ∧ portSer s.build s.msg.pay = none) ∧
      (let s := { ready b1 with enc := [{ valid := true, sid := 0, seq := 0, key := [0] }] }
       s.EncReady 0 ∧ (s.encSlot 0).seq ≠ 2 ^ 64 ∧ portSer s.build s.msg.pay = some (vT2.take 26) ∧
        portEncrypt s.build (s.encSlot 0).key (vT2.take 26) = none) ∧
      (let s := inBuffer 57
       s.EncReady 0 ∧ (s.encSlot 0).seq ≠ 2 ^ 64 ∧ portSer s.build s.msg.pay = some (vT2.take 26) ∧
        portEncrypt s.build (s.encSlot 0).key (vT2.take 26) = some vT2 ∧
        s.build.bufMax < 25 + s.build.w.bytes + vT2.length) ∧
      (¬ (fresh b1).EncReady 0 ∧ ¬ (ready b1).EncReady 4) ∧
      ((atSequence (2 ^ 64)).EncReady 0 ∧ ((atSequence (2 ^ 64)).encSlot 0).seq = 2 ^ 64) := by decide +kernel
/-- The counter's last value but one; construction in an empty slot (the last), and in an exhausted one. -/
theorem witness_AdmittedEncodeAssignsIdentityAndSequence :
    (let s := atSequence (2 ^ 64 - 1)
     s.EncReady 0 ∧ 0 < s.enc.length ∧ (s.encSlot 0).seq < 2 ^ 64) ∧
      ∀ x ∈ [(3, ready b1), (0, atSequence (2 ^ 64))],
        (x.1 < x.2.build.nEnc ∧ x.2.enc.length = x.2.build.nEnc ∧ (after (.encNew x.1) x.2).status = 0x00) ∧
          exec (.encNew x.1) x.2 = .next (after (.encNew x.1) x.2) :=
  ⟨by decide, fun x hx => ⟨by revert x; decide +kernel, exec_after _ _⟩⟩
/-- Two states that agree in nothing else the packet could depend on. -/
theorem witness_PacketDependsOnlyOnTheOperands :
    let s := ready b1
    let t := { load (ready b1) v25 with keyin := k1, off := 7, msg := { s.msg with sid := 3, seq := 4 }, status := 0x14 }
    s ≠ t ∧ s.build = t.build ∧ s.encSlot 0 = t.encSlot 0 ∧ s.msg.grp = t.msg.grp ∧ s.msg.sub = t.msg.sub ∧
      s.msg.pay = t.msg.pay := by decide +kernel
theorem witness_SecondPacketDiffersOnlyInSequenceAndChecksum1 :
    0 < (ready b1).enc.length ∧ exec (.encode 0) (ready b1) = .next encoded ∧ encoded.status = 0x00 ∧
      exec (.encode 0) encoded = .next (after (.encode 0) encoded) ∧ (after (.encode 0) encoded).status = 0x00 :=
  ⟨by decide, exec_after _ _, by decide +kernel, exec_after _ _, by decide +kernel⟩
/-- Two encodes from the counter's last value but one end at its top. -/
theorem witness_SequenceNumbersCountAdmittedEncodes :
    let s := atSequence (2 ^ 64 - 2)
    let is : List Instr := [.encode 0, .encNew 1, .decode 0, .encode 0]
    s.EncReady 0 ∧ Instr.encNew 0 ∉ is ∧ (s.encSlot 0).seq + is.count (.encode 0) = 2 ^ 64 := by decide +kernel
/-- Two constructions use up the identities, one leaves the last one. -/
theorem witness_IdentitiesFollowConstructionOrder :
    let s := { ready b1 with idctr := 254 }
    let is : List Instr := [.encNew 3, .encNew 4, .encode 0, .encNew 0]
    Instr.tstIdrst ∉ is ∧ s.enc.length = s.build.nEnc ∧
      s.idctr + is.countP (constructsIn s.build.nEnc) = 2 ^ (8 * s.build.w.bytes) ∧ 3 < s.build.nEnc ∧
      s.idctr + (is.take 3).countP (constructsIn s.build.nEnc) < 2 ^ (8 * s.build.w.bytes) := by decide +kernel
/-- Every argument at the end of its range. -/
theorem witness_FieldsOfAFrameAreItsArguments : 255 < 2 ^ (8 * 1) ∧ 2 ^ 64 - 1 < 2 ^ 64 ∧
    (-2 : Int) ^ 31 ≤ -2147483648 ∧ (-2147483648 : Int) < 2 ^ 31 ∧ (2147483647 : Int) < 2 ^ 31 ∧
    25 + 1 + ([] : Bytes).length < 2 ^ 32 := by decide
theorem witness_DecNewConstructsADecoder : 3 < b1.nDec ∧ b1.nDec ≤ 4 ∧ 255 < 256 := by decide
/-- V57; and a decode that changes a message register. -/
theorem witness_DecodeCommitsAValidPacket :
    let s := load (ready b1) v20
    s.DecReady 0 ∧ s.FrameIntact ∧
      portDecrypt s.build (s.decSlot 0).key s.bodyBytes = some (vT2.take 26) ∧
      portDes s.build (vT2.take 26) = some creds ∧ exec (.decode 0) s = .next (after (.decode 0) s) ∧
      (after (.decode 0) s).msg ≠ s.msg :=
  ⟨by decide, by decide +kernel, by decide +kernel, by decide +kernel, exec_after _ _, by decide +kernel⟩
/-- The seven causes, each from the first that can bring it about: V62 (25 bytes), V68, V69, V64 (59 bytes), V71, V76,
V75; and no cause for 26 bytes. -/
theorem witness_DecodeRejectsForEachOfSevenCauses :
    (∀ s ∈ [load (ready b1) (v20.take 25), load (ready b1) (v20.set 0 0x12), load (ready b1) (v20.set 9 0x01),
        load (ready b1) (v20 ++ [0]), load (ready b1) (v20.set 19 0x0D), load (ready b1) v25,
        load (ready b1) (frame Crcp.arc 1 0 0 12 75 (bytes [5, 0x41, 0x42] ++ List.replicate 13 0x0D))],
      s.DecReady 0 ∧ (after (.decode 0) s).status = 0x01) ∧
      (let s := load (ready b1) (v20.take 25)
       s.plen < 25 + s.build.w.bytes) ∧
      (let s := load (ready b1) (v20.set 0 0x12)
       s.pktByte 0 ≠ 0x13) ∧
      (let s := load (ready b1) (v20.set 9 0x01)
       (s.crcOver 0 (13 + s.build.w.bytes)).toNat ≠ s.memRead (13 + s.build.w.bytes) 2) ∧
      (let s := load (ready b1) (v20 ++ [0])
       s.memRead (9 + s.build.w.bytes) 4 ≠ s.plen) ∧
      (let s := load (ready b1) (v20.set 19 0x0D)
       (s.crcOver (15 + s.build.w.bytes) (8 + s.bodyLen)).toNat ≠ s.memRead (23 + s.build.w.bytes + s.bodyLen) 2) ∧
      (let s := load (ready b1) v25
       s.FrameIntact ∧ portDecrypt s.build (s.decSlot 0).key s.bodyBytes = none) ∧
      (let s := load (ready b1) (frame Crcp.arc 1 0 0 12 75 (bytes [5, 0x41, 0x42] ++ List.replicate 13 0x0D))
       portDecrypt s.build (s.decSlot 0).key s.bodyBytes = some (bytes [5, 0x41, 0x42]) ∧
        portDes s.build (bytes [5, 0x41, 0x42]) = none) := by decide +kernel
theorem witness_DecodeOfAnUnconstructedSlotIsBadSlot : ¬ (fresh b1).DecReady 0 ∧ ¬ (ready b1).DecReady 4 := by decide
/-- Buffers that agree below `PLEN` and differ above it, in the message and in the encoders. -/
theorem witness_DecodeDependsOnlyOnTheBuffer :
    let s := load (ready b1) v25
    let t := { (load (ready b1) v20).memWriteBytes 0 v25 with plen := 26, msg := (fresh b1).msg, enc := (fresh b1).enc }
    s ≠ t ∧ s.build = t.build ∧ s.plen = t.plen ∧ s.decSlot 0 = t.decSlot 0 ∧
      (∀ a < s.plen, s.pktByte a = t.pktByte a) ∧ exec (.decode 0) s = .next (after (.decode 0) s) :=
  ⟨by decide +kernel, by decide, by decide, by decide, by decide +kernel, exec_after _ _⟩
theorem witness_LengthFieldOfAValidPacketIsItsLength : (ready b1).build.bufMax ≤ 2 ^ 31 - 1 ∧
    encoded.status = 0x00 ∧ (after (.decode 0) (load (ready b1) v20)).status = 0x00 := by decide +kernel
/-- P1: the host scribbles over the message between the two commands. -/
theorem witness_DecodeOfAnEncodedPacketGivesTheMessageBack :
    let u := { encoded with msg := { sid := 0xFF, seq := 2 ^ 64 - 1, grp := 0, sub := 0, pay := none }, idctr := 7 }
    (ready b1).Inv ∧ exec (.encode 0) (ready b1) = .next encoded ∧ encoded.status = 0x00 ∧
      u.build = (ready b1).build ∧ u.plen = encoded.plen ∧ (∀ a < encoded.plen, u.pktByte a = encoded.pktByte a) ∧
      u.DecReady 0 ∧ (u.decSlot 0).key = ((ready b1).encSlot 0).key ∧
      (after (.decode 0) u).msg = encoded.msg :=
  ⟨by decide +kernel, exec_after _ _, by decide +kernel, by decide +kernel, by decide +kernel, by decide +kernel,
    by decide +kernel, by decide +kernel, by decide +kernel⟩
/-- One changed byte at the boundary offsets of each line of R156's table. -/
theorem witness_DecodeRejectsEverySingleByteChange :
    (ready b1).Inv ∧ exec (.encode 0) (ready b1) = .next encoded ∧ encoded.status = 0x00 ∧
      ∀ a ∈ [0, 1, 13, 14, 15, 16, 55, 56, 57],
        let u := encoded.memWriteBytes a [encoded.pktByte a ^^^ 0x80]
        u.build = (ready b1).build ∧ u.plen = encoded.plen ∧ a < encoded.plen ∧ u.pktByte a ≠ encoded.pktByte a ∧
          (∀ x < encoded.plen, x ≠ a → u.pktByte x = encoded.pktByte x) ∧ u.DecReady 0 ∧
          (after (.decode 0) u).status = 0x01 :=
  ⟨by decide +kernel, exec_after _ _, by decide +kernel, by decide +kernel⟩
theorem witness_TstIdrstClearsTheIdentityCounter : testBuild.testEn = true ∧ b1.testEn = false ∧
    (0x0F01 : BitVec 16).toNat / 256 = 15 ∧ (0x0F01 : BitVec 16).toNat % 256 ≠ 0 ∧
    (doing (fresh testBuild) (.wr .cmd (.nat (0x0F01 : BitVec 16).toNat))).host =
      .wr .cmd (.nat (0x0F01 : BitVec 16).toNat) :: [] := by decide
/-- Each register a command can change, changed by it. -/
theorem witness_CommandsWriteOnlyTheirOwnRegisters :
    (after .crc16 (crcState 0 58)).crc ≠ (crcState 0 58).crc ∧ encoded.pkt ≠ (ready b1).pkt ∧
      encoded.msg.sid ≠ (ready b1).msg.sid ∧
      (after (.decode 0) (load { ready b1 with msg := (fresh b1).msg } v20)).msg.grp ≠ (fresh b1).msg.grp ∧
      (after (.encNew 0) (fresh b1)).idctr ≠ (fresh b1).idctr ∧ (after (.encNew 0) (fresh b1)).enc ≠ (fresh b1).enc ∧
      (after (.decNew 0) (fresh b1)).dec ≠ (fresh b1).dec := by decide +kernel
theorem witness_EncoderAndDecoderStateAreDisjoint :
    (Instr.encode 3 = .encNew 3 ∨ Instr.encode 3 = .encode 3 ∨ Instr.encode 3 = .tstIdrst) ∧
      (Instr.decode 3 = .decNew 3 ∨ Instr.decode 3 = .decode 3) := by decide
/-- The three kinds of `ENCODE` and of `DECODE` that the statement tells apart. -/
theorem witness_CollaboratorsAreCalledInOrder :
    ¬ (fresh b1).EncReady 0 ∧ ((atSequence (2 ^ 64)).encSlot 0).seq = 2 ^ 64 ∧
      ((ready b1).EncReady 0 ∧ ((ready b1).encSlot 0).seq ≠ 2 ^ 64 ∧
        callsMade (.encode 0) (ready b1) = [.ser (some creds), .encrypt k0 (vT2.take 26)]) ∧
      ¬ (fresh b1).DecReady 0 ∧ ¬ (load (ready b1) (v20.set 57 0x66)).FrameIntact ∧
      (let s := load (ready b1) v20
       s.DecReady 0 ∧ s.FrameIntact ∧ callsMade (.decode 0) s = [.decrypt k0 vT2, .des (vT2.take 26)]) := by
  decide +kernel
theorem witness_CountersMoveByOneAndNeverWrap : (ready b1).enc.length = (ready b1).build.nEnc ∧ 3 < b1.nEnc := by decide
theorem witness_StepKeepsTheInvariant :
    let s := doing (ready b1) (.wr .plen (.nat 4096))
    s.Inv ∧ ∃ t, step s = .next t := ⟨by decide +kernel, _, rfl⟩
theorem witness_ResetStateMeetsTheInvariant : Config.build.Legal ∧ b4.Legal := by decide
theorem witness_StepKeepsIdentitiesUnique :
    let s := doing { ready b1 with enc := (ready b1).enc.set 2 { valid := true, sid := 1, seq := 5, key := k1 }, idctr := 2 }
      (.wr .cmd (.nat 0x0201))
    s.build.testEn = false ∧ s.IdsUnique ∧ ∃ t, step s = .next t := by
  refine ⟨by decide, ⟨by decide +kernel, fun e he f hf h he' hf' => ?_⟩, _, rfl⟩
  have he4 : e < 4 := he
  have hf4 : f < 4 := hf
  clear he hf
  interval_cases e <;> interval_cases f <;>
    first | exact absurd rfl h | exact absurd he' (by decide) | exact absurd hf' (by decide) | decide
/-- Reset may be taken from any state, one inside a command too. -/
theorem witness_ResetPutsEveryStateElementAtItsResetValue :
    (doing { ready b1 with ph := .e6, cur := 20 } .reset).host = .reset :: [] := rfl
theorem witness_ResetStateHoldsTheStatedValues : State.reset = State.resetOf Config.build 0 ∧ (fresh b1).host = [] :=
  ⟨rfl, rfl⟩
/-- The last bytes of the buffer, a readable and a write-only register. -/
theorem witness_HostReadsChangeNothing :
    (doing (fresh b1) (.rd .status)).ph = .idle ∧ (doing (fresh b1) (.rd .status)).host = .rd .status :: [] ∧
      4095 + 1 ≤ b1.bufMax ∧
      (doing (fresh b1) (.rdpkt 4095 1)).host = .rdpkt 4095 1 :: [] ∧
      (doing (fresh b1) (.rd .keyin)).host = .rd .keyin :: [] := by decide +kernel
/-- Every register at the top of its range; the last bytes of the buffer; a read-only register. -/
theorem witness_HostWritesLandWhereTheyAreAddressed :
    (fresh b1).ph = .idle ∧ 2 ^ 32 - 1 < 2 ^ 32 ∧ 255 < 2 ^ (8 * b1.w.bytes) ∧ 2 ^ 64 - 1 < 2 ^ 64 ∧
      ((-2 : Int) ^ 31 ≤ -2147483648 ∧ (2147483647 : Int) < 2 ^ 31) ∧ k1.length = b1.keyLen ∧ 4096 ≤ b1.bufMax ∧
      4094 + ([1, 2] : Bytes).length ≤ b1.bufMax ∧ (HostReg.status = .crc ∨ HostReg.status = .status) ∧
      (doing (fresh b1) (.wr .off (.nat (2 ^ 32 - 1)))).host = .wr .off (.nat (2 ^ 32 - 1)) :: [] := by decide +kernel
/-- Every argument at the ends of its range; a buffer just as long as `PKT` and one byte longer. -/
theorem witness_PseudoCommandsRunTheirExpansions :
    (fresh b1).ph = .idle ∧ (List.replicate 4096 (0 : Byte)).length ≤ (fresh b1).build.bufMax ∧
      (fresh b1).build.bufMax < (List.replicate 4097 (0 : Byte)).length ∧ 2 ^ 32 - 1 < 2 ^ 32 ∧ 255 < 256 ∧
      ((-2 : Int) ^ 31 ≤ -2147483648 ∧ (2147483647 : Int) < 2 ^ 31) ∧
      (some creds).all (payloadHasType (fresh b1).build.payload) = true ∧ k1.length = (fresh b1).build.keyLen := by
  refine ⟨rfl, ?_, ?_, by decide⟩ <;> simp only [List.length_replicate] <;> decide
/-- The first slot index without a word; a buffer that fits and one that does not. -/
theorem witness_PseudoCommandsRefuseSlotsWithoutAWord : 256 ≤ 256 ∧ ¬ (inBuffer 58).build.bufMax < v20.length ∧
    (inBuffer 57).build.bufMax < v20.length := by decide

end Sys2Proof.Tests
end

section
/-! PROOFS. The family 10_state.md: what each command does to the state and which phases it goes through, what keeps the
invariant, what the host's accesses do, and the statements settled with these. -/

namespace Sys2Proof.Machine

section

variable {s t u : State} {i : Instr} {c : Completion}

/-- `exec` answers the final state of the command's run. -/
theorem exec_eq_runOf (i : Instr) (s : State) : exec i s = .next (runOf i s).state := by
  cases i <;> rfl

/-! ### Phase and cursor: set independently, and the last value set stands -/

/-- A move of the cursor sets it. -/
theorem State.advance_eq_setCur (s : State) (a n : Nat) : s.advance a n = s.setCur (max s.cur (a + n)) := rfl

theorem State.setPh_setCur (s : State) (n : Nat) (p : Phase) : (s.setCur n).setPh p = (s.setPh p).setCur n := rfl
theorem State.setCur_setCur (s : State) (m n : Nat) : (s.setCur m).setCur n = s.setCur n := rfl
theorem State.setPh_setPh (s : State) (p q : Phase) : (s.setPh p).setPh q = s.setPh q := rfl

/-! ### `ENCODE`: the state each of its exits leaves -/

/-- An encoder slot is not ready exactly where the admission test of `ENCODE` fails (R122, R176). -/
theorem State.not_encReady_iff (s : State) (e : Nat) :
    ¬ s.EncReady e ↔ s.build.nEnc ≤ e ∨ (s.encSlot e).valid = false := by
  rw [State.EncReady, not_and_or, not_lt, Bool.not_eq_true]

@[simp] theorem State.packetOf_length (s : State) (e : Nat) (body : Bytes) :
    (s.packetOf e body).length = 25 + s.build.w.bytes + body.length := by
  simp only [State.packetOf, frame, List.length_append, frameHeader_length, frameMiddle_length, be_length]
  omega

/-- `E6` and `E7` together write the middle of the frame and its CRC (R69 to R71, R73). -/
theorem State.writeMiddle_writeCheck2_pkt (s : State) (body : Bytes) :
    (((s.writeMiddle body).setPh .e7).writeCheck2 body.length).pkt =
      Memory.setBytes s.pkt (15 + s.build.w.bytes) (frameMiddle s.msg.grp.toInt s.msg.sub.toInt body ++
        be 2 (crc16 s.build.crcp (frameMiddle s.msg.grp.toInt s.msg.sub.toInt body)).toNat) := by
  have h := ((s.writeMiddle body).setPh .e7).writeCheck2_pkt s.pkt _ _ (frameMiddle_length _ _ body)
    (by simpa using s.writeMiddle_pkt body)
  simpa using h

/-- The three writing phases together write one frame at offset 0 (R73, R126). -/
theorem State.writePhases_pkt (s : State) (body : Bytes) :
    (((((s.setPh .e5).writeHeader body.length).setPh .e6).writeMiddle body).setPh .e7 |>.writeCheck2
      body.length).pkt =
      Memory.setBytes s.pkt 0 (frame s.build.crcp s.build.w.bytes s.msg.sid s.msg.seq.toNat s.msg.grp.toInt
        s.msg.sub.toInt body) := by
  simp only [State.writeMiddle_writeCheck2_pkt, State.setPh_pkt, State.writeHeader_pkt, State.setPh_build,
    State.writeHeader_build, State.setPh_msg, State.writeHeader_msg, frame]
  rw [List.append_assoc, Memory.setBytes_append _ 0 (_ ++ _) (_ ++ _), List.length_append, frameHeader_length,
    be_length, show 0 + (13 + s.build.w.bytes + 2) = 15 + s.build.w.bytes by omega]

/-- What the writing phases leave: the frame in the buffer and its length in `PLEN`. -/
theorem encodeE5_state_eq (body : Bytes) (r : Run) :
    (encodeE5 body r).state =
      ((r.state.setPkt (Memory.setBytes r.state.pkt 0 (frame r.state.build.crcp r.state.build.w.bytes
        r.state.msg.sid r.state.msg.seq.toNat r.state.msg.grp.toInt r.state.msg.sub.toInt body))).setPlen
          (25 + r.state.build.w.bytes + body.length)).finish .ok := by
  rw [encodeE5_state, ← State.writePhases_pkt]
  simp [State.finish_eq, State.setPlen, State.setPkt]

/-- The state after an `ENCODE e` that completes with `OK` and the packet body `body` (R122, R126). -/
def State.encoded (s : State) (e : Nat) (body : Bytes) : State :=
  ((s.assignSequence e).setPkt (Memory.setBytes s.pkt 0 (s.packetOf e body))).setPlen
    (25 + s.build.w.bytes + body.length)

section Encode

variable (e : Nat) (s : State) (hr : s.EncReady e) (hq : (s.encSlot e).seq ≠ 2 ^ 64)
include hr hq

/-- An admitted `ENCODE` assigns, then serializes (R123, R124). -/
theorem runEncode_ready :
    runEncode e s = encodeE2 e ((((Run.start s).enter .e0).enter .e1).upd fun t => t.assignSequence e) :=
  runEncode_admitted e s hr.1 hr.2 hq

theorem runEncode_serFails (hser : portSer s.build s.msg.pay = none) :
    (runEncode e s).state = (s.assignSequence e).finish .encodeFailure := by
  rw [runEncode_ready e s hr hq, encodeE2_fail _ _ (by simpa [State.assignSequence_msg] using hser)]
  simp

/-- Once serialized, the message goes to `ENCRYPT` with the slot's key (R124). -/
theorem runEncode_serialized (plain : Bytes) (hser : portSer s.build s.msg.pay = some plain) :
    ∃ r, runEncode e s = encodeE3 e plain r ∧ r.state = (s.assignSequence e).setPh .e2 ∧
      (r.state.encSlot e).key = (s.encSlot e).key := by
  rw [runEncode_ready e s hr hq, encodeE2_ok e _ plain (by simpa [State.assignSequence_msg] using hser)]
  have hkey := s.encSlot_assignSequence_key e hr.2
  exact ⟨_, rfl, by simp [State.setPh_setPh], by simpa using hkey⟩

theorem runEncode_encryptFails (plain : Bytes) (hser : portSer s.build s.msg.pay = some plain)
    (henc : portEncrypt s.build (s.encSlot e).key plain = none) :
    (runEncode e s).state = (s.assignSequence e).finish .encodeFailure := by
  obtain ⟨r, hrun, hstate, hkey⟩ := runEncode_serialized e s hr hq plain hser
  rw [hrun, encodeE3_fail e plain r (by rw [hkey, hstate]; exact henc), Run.raiseEncodeFailure_state]
  simp [hstate]

/-- Once encrypted, the body meets the length test (R125). -/
theorem runEncode_encrypted (plain body : Bytes) (hser : portSer s.build s.msg.pay = some plain)
    (henc : portEncrypt s.build (s.encSlot e).key plain = some body) :
    ∃ r, runEncode e s = encodeE4 body r ∧ r.state = (s.assignSequence e).setPh .e3 := by
  obtain ⟨r, hrun, hstate, hkey⟩ := runEncode_serialized e s hr hq plain hser
  rw [hrun, encodeE3_ok e plain body r (by rw [hkey, hstate]; exact henc)]
  exact ⟨_, rfl, by rw [Run.called_state, Run.enter_state, hstate]; rfl⟩

theorem runEncode_tooLong (plain body : Bytes) (hser : portSer s.build s.msg.pay = some plain)
    (henc : portEncrypt s.build (s.encSlot e).key plain = some body)
    (hfit : s.build.bufMax < 25 + s.build.w.bytes + body.length) :
    (runEncode e s).state = (s.assignSequence e).finish .encodeFailure := by
  obtain ⟨r, hrun, hstate⟩ := runEncode_encrypted e s hr hq plain body hser henc
  rw [hrun, encodeE4_fail body r (by rw [hstate]; exact hfit), Run.raiseEncodeFailure_state]
  simp [hstate]

theorem runEncode_ok (plain body : Bytes) (hser : portSer s.build s.msg.pay = some plain)
    (henc : portEncrypt s.build (s.encSlot e).key plain = some body)
    (hfit : 25 + s.build.w.bytes + body.length ≤ s.build.bufMax) :
    (runEncode e s).state = (s.encoded e body).finish .ok := by
  obtain ⟨r, hrun, hstate⟩ := runEncode_encrypted e s hr hq plain body hser henc
  rw [hrun, encodeE4_ok body r (by rw [hstate]; exact hfit), encodeE5_state_eq, Run.enter_state, hstate]
  rfl

end Encode

/-! ### `DECODE`: the state each of its exits leaves -/

@[simp] theorem State.bodyField_setCur (s : State) (n l : Nat) : (s.setCur n).bodyField l = s.bodyField l := rfl
@[simp] theorem State.decSlot_setCur (s : State) (n d : Nat) : (s.setCur n).decSlot d = s.decSlot d := rfl
@[simp] theorem State.finish_setCur (s : State) (n : Nat) (c : Completion) : (s.setCur n).finish c = s.finish c := rfl
@[simp] theorem State.commitMessage_of_setCur (s : State) (n : Nat) (pay : Payload) :
    (s.setCur n).commitMessage pay = (s.commitMessage pay).setCur n := rfl
@[simp] theorem State.bodyField_bodyLen (s : State) : s.bodyField s.bodyLen = s.bodyBytes := rfl

/-- The body length `D4` computes from the length field, once that is `PLEN` (R146). -/
theorem State.bodyLen_eq (s : State) : s.bodyLen = s.plen - minLen s.build.w.bytes := rfl

/-- A decoder slot is not ready exactly where the admission test of `DECODE` fails (R142, R176). -/
theorem State.not_decReady_iff (s : State) (d : Nat) :
    ¬ s.DecReady d ↔ s.build.nDec ≤ d ∨ (s.decSlot d).valid = false := by
  rw [State.DecReady, not_and_or, not_lt, Bool.not_eq_true]

/-- None of the seven causes is present exactly where the frame is intact and both collaborators answer (R171). -/
theorem State.not_packetInvalid_iff (s : State) (d : Nat) :
    ¬ s.PacketInvalid d ↔ s.FrameIntact ∧ ∃ plain pay,
      portDecrypt s.build (s.decSlot d).key s.bodyBytes = some plain ∧ portDes s.build plain = some pay := by
  simp only [State.PacketInvalid, State.FrameIntact, not_or, not_lt, not_not, not_exists, not_and, and_assoc,
    ← ne_eq, Option.ne_none_iff_exists']
  iterate 5 refine and_congr_right fun _ => ?_
  constructor
  · rintro ⟨⟨plain, hdec⟩, hdes⟩
    obtain ⟨pay, hpay⟩ := hdes plain hdec
    exact ⟨plain, pay, hdec, hpay⟩
  · rintro ⟨plain, pay, hdec, hdes⟩
    refine ⟨⟨plain, hdec⟩, fun plain' hdec' => ?_⟩
    cases hdec.symm.trans hdec'
    exact ⟨pay, hdes⟩

/-- `D1` to `D5` reject every frame that is not intact, and change nothing but what a completion writes (R143 to
R147). -/
theorem decodeD1_state_of_not_intact (d : Nat) (r : Run) (h : ¬ r.state.FrameIntact) :
    (decodeD1 d r).state = r.state.finish .invalidPacket := by
  cases h₁ : r.state.tooShort with
  | true => simp [decodeD1_fail d r h₁]
  | false =>
  rw [decodeD1_ok d r h₁]
  cases h₂ : r.state.magicWrong with
  | true => simp [decodeD2_fail, h₂]
  | false =>
  rw [decodeD2_ok _ _ (by simp [h₂])]
  cases h₃ : r.state.check1Wrong with
  | true => simp [decodeD3_fail, h₃]
  | false =>
  rw [decodeD3_ok _ _ (by simp [h₃])]
  by_cases h₄ : r.state.totalField = r.state.plen
  case neg => rw [decodeD4_fail _ _ (by simpa using h₄)]; simp
  rw [decodeD4_ok _ _ (by simp [h₄])]
  cases h₅ : r.state.check2Wrong r.state.bodyLen with
  | true => rw [decodeD5_fail _ _ _ (by simpa [State.bodyLen_eq] using h₅)]; simp
  | false =>
  exact absurd ⟨r.state.tooShort_eq_false.1 h₁, r.state.magicWrong_eq_false.1 h₂,
    r.state.check1Wrong_eq_false.1 h₃, h₄, (r.state.check2Wrong_eq_false _).1 h₅⟩ h

/-- An intact frame reaches `D6` with nothing changed but the phase and the cursor (R148). -/
theorem decodeD1_of_intact (d : Nat) (r : Run) (h : r.state.FrameIntact) :
    ∃ r', decodeD1 d r = decodeD6 d r.state.bodyLen r' ∧ r'.state = (r.state.setPh .d5).setCur r'.state.cur ∧
      r'.events = r.events ++ [Event.phase .d1, .phase .d2, .phase .d3, .phase .d4, .phase .d5] := by
  obtain ⟨hlen, hmagic, hcheck1, htotal, hcheck2⟩ := h
  rw [decodeD1_ok _ _ (r.state.tooShort_eq_false.2 hlen),
    decodeD2_ok _ _ (by simpa using r.state.magicWrong_eq_false.2 hmagic),
    decodeD3_ok _ _ (by simpa using r.state.check1Wrong_eq_false.2 hcheck1),
    decodeD4_ok _ _ (by simpa using r.state.totalField_eq.trans htotal),
    decodeD5_ok _ _ _ (by simpa [State.bodyLen_eq] using (r.state.check2Wrong_eq_false r.state.bodyLen).2 hcheck2)]
  simp only [Run.reads_state, Run.enter_state, State.advance_plen, State.setPh_plen, State.wBytes_eq,
    State.advance_build, State.setPh_build, ← State.bodyLen_eq]
  refine ⟨_, rfl, ?_, by simp⟩
  simp only [Run.reads_state, Run.enter_state, State.advance_eq_setCur, State.setPh_setCur, State.setCur_setCur,
    State.setPh_setPh, State.setCur_cur]

section Decode

variable (d : Nat) (s : State) (hr : s.DecReady d)
include hr

/-- An admitted `DECODE` of an intact frame hands the body to `DECRYPT` (R148). -/
theorem runDecode_intact (h : s.FrameIntact) :
    ∃ r n, runDecode d s = decodeD6 d s.bodyLen r ∧ r.state = (s.setPh .d5).setCur n := by
  rw [runDecode_admitted d s hr.1 hr.2]
  obtain ⟨r, hrun, hstate, -⟩ := decodeD1_of_intact d ((Run.start s).enter .d0) h
  exact ⟨r, _, hrun, hstate⟩

/-- Each cause of `InvalidPacket` leaves everything but what a completion writes (R152, R171). -/
theorem runDecode_rejected (h : s.PacketInvalid d) : (runDecode d s).state = s.finish .invalidPacket := by
  by_cases hf : s.FrameIntact
  case neg =>
    rw [runDecode_admitted d s hr.1 hr.2, decodeD1_state_of_not_intact d _ (by exact hf)]
    rfl
  obtain ⟨r, n, hrun, hstate⟩ := runDecode_intact d s hr hf
  cases hdec : portDecrypt s.build (s.decSlot d).key s.bodyBytes with
  | none =>
    rw [hrun, decodeD6_fail d _ r (by simpa [hstate] using hdec)]
    simp [hstate]
  | some plain =>
    rw [hrun, decodeD6_ok d _ r plain (by simpa [hstate] using hdec)]
    cases hdes : portDes s.build plain with
    | none =>
      rw [decodeD7_fail plain _ (by simpa [hstate] using hdes)]
      simp [hstate]
    | some pay => exact absurd h ((s.not_packetInvalid_iff d).2 ⟨hf, plain, pay, hdec, hdes⟩)

/-- A `DECODE` that passes `D1` to `D7` commits the message (R151). -/
theorem runDecode_ok (hf : s.FrameIntact) (plain : Bytes) (pay : Payload)
    (hdec : portDecrypt s.build (s.decSlot d).key s.bodyBytes = some plain) (hdes : portDes s.build plain = some pay) :
    (runDecode d s).state = (s.commitMessage pay).finish .ok := by
  obtain ⟨r, n, hrun, hstate⟩ := runDecode_intact d s hr hf
  rw [hrun, decodeD6_ok d _ r plain (by simpa [hstate] using hdec),
    decodeD7_ok plain _ pay (by simpa [hstate] using hdes), decodeD8_eq]
  simp [hstate]

end Decode

/-! ### The effect of a command: every exit, its condition, and what it has done before it completes -/

/-- `Effect s i c u`: from `s` the command `i` completes with the code `c`, having made the state `u` before the
completion writes `STATUS`, `PH` and `CUR`. One constructor for each exit of each command. -/
inductive Effect (s : State) : Instr → Completion → State → Prop
  | crc16Range (h : s.plen < s.off.toNat + s.clen.toNat) : Effect s .crc16 .range s
  | crc16Ok (h : s.off.toNat + s.clen.toNat ≤ s.plen) :
      Effect s .crc16 .ok (s.setCrc (s.crcOver s.off.toNat s.clen.toNat))
  | encNewBadSlot (e : Nat) (h : s.build.nEnc ≤ e) : Effect s (.encNew e) .badSlot s
  | encNewExhausted (e : Nat) (h : e < s.build.nEnc) (hid : s.idctr = 2 ^ (8 * s.build.w.bytes)) :
      Effect s (.encNew e) .idExhausted s
  | encNewOk (e : Nat) (h : e < s.build.nEnc) (hid : s.idctr ≠ 2 ^ (8 * s.build.w.bytes)) :
      Effect s (.encNew e) .ok (s.constructEncoder e)
  | encodeBadSlot (e : Nat) (h : ¬ s.EncReady e) : Effect s (.encode e) .badSlot s
  | encodeExhausted (e : Nat) (h : s.EncReady e) (hq : (s.encSlot e).seq = 2 ^ 64) :
      Effect s (.encode e) .seqExhausted s
  | encodeSerFails (e : Nat) (h : s.EncReady e) (hq : (s.encSlot e).seq ≠ 2 ^ 64)
      (hser : portSer s.build s.msg.pay = none) : Effect s (.encode e) .encodeFailure (s.assignSequence e)
  | encodeEncryptFails (e : Nat) (h : s.EncReady e) (hq : (s.encSlot e).seq ≠ 2 ^ 64) (plain : Bytes)
      (hser : portSer s.build s.msg.pay = some plain) (henc : portEncrypt s.build (s.encSlot e).key plain = none) :
      Effect s (.encode e) .encodeFailure (s.assignSequence e)
  | encodeTooLong (e : Nat) (h : s.EncReady e) (hq : (s.encSlot e).seq ≠ 2 ^ 64) (plain body : Bytes)
      (hser : portSer s.build s.msg.pay = some plain)
      (henc : portEncrypt s.build (s.encSlot e).key plain = some body)
      (hfit : s.build.bufMax < 25 + s.build.w.bytes + body.length) :
      Effect s (.encode e) .encodeFailure (s.assignSequence e)
  | encodeOk (e : Nat) (h : s.EncReady e) (hq : (s.encSlot e).seq ≠ 2 ^ 64) (plain body : Bytes)
      (hser : portSer s.build s.msg.pay = some plain)
      (henc : portEncrypt s.build (s.encSlot e).key plain = some body)
      (hfit : 25 + s.build.w.bytes + body.length ≤ s.build.bufMax) : Effect s (.encode e) .ok (s.encoded e body)
  | decNewBadSlot (d : Nat) (h : s.build.nDec ≤ d) : Effect s (.decNew d) .badSlot s
  | decNewOk (d : Nat) (h : d < s.build.nDec) :
      Effect s (.decNew d) .ok (s.setDecSlot d { valid := true, key := s.keyin })
  | decodeBadSlot (d : Nat) (h : ¬ s.DecReady d) : Effect s (.decode d) .badSlot s
  | decodeRejected (d : Nat) (h : s.DecReady d) (hinv : s.PacketInvalid d) : Effect s (.decode d) .invalidPacket s
  | decodeOk (d : Nat) (h : s.DecReady d) (hf : s.FrameIntact) (plain : Bytes) (pay : Payload)
      (hdec : portDecrypt s.build (s.decSlot d).key s.bodyBytes = some plain)
      (hdes : portDes s.build plain = some pay) : Effect s (.decode d) .ok (s.commitMessage pay)
  | tstIdrstIllegal (h : s.build.testEn = false) : Effect s .tstIdrst .illegalCmd s
  | tstIdrstOk (h : s.build.testEn = true) : Effect s .tstIdrst .ok (s.setIdctr 0)

/-- The run of a command ends in its effect, completed. -/
theorem Effect.runOf_state (h : Effect s i c u) : (runOf i s).state = u.finish c := by
  cases h with
  | crc16Range h => rw [runOf, runCrc16_range s h]; rfl
  | crc16Ok h => rw [runOf, runCrc16_ok s h]; simp [crc16C1]
  | encNewBadSlot e h => rw [runOf, runEncNew_badSlot e s h]; rfl
  | encNewExhausted e h hid => rw [runOf, runEncNew_idExhausted e s h hid]; rfl
  | encNewOk e h hid => rw [runOf, runEncNew_ok e s h hid]; rfl
  | encodeBadSlot e h => rw [runOf, runEncode_badSlot e s ((s.not_encReady_iff e).1 h)]; rfl
  | encodeExhausted e h hq => rw [runOf, runEncode_seqExhausted e s h.1 h.2 hq]; rfl
  | encodeSerFails e h hq hser => exact runEncode_serFails e s h hq hser
  | encodeEncryptFails e h hq plain hser henc => exact runEncode_encryptFails e s h hq plain hser henc
  | encodeTooLong e h hq plain body hser henc hfit => exact runEncode_tooLong e s h hq plain body hser henc hfit
  | encodeOk e h hq plain body hser henc hfit => exact runEncode_ok e s h hq plain body hser henc hfit
  | decNewBadSlot d h => rw [runOf, runDecNew_badSlot d s h]; rfl
  | decNewOk d h => rw [runOf, runDecNew_ok d s h]; rfl
  | decodeBadSlot d h => rw [runOf, runDecode_badSlot d s ((s.not_decReady_iff d).1 h)]; rfl
  | decodeRejected d h hinv => exact runDecode_rejected d s h hinv
  | decodeOk d h hf plain pay hdec hdes => exact runDecode_ok d s h hf plain pay hdec hdes
  | tstIdrstIllegal h => rw [runOf, runTstIdrst_illegal s h]; rfl
  | tstIdrstOk h => rw [runOf, runTstIdrst_ok s h]; rfl

/-- `exec` completes the effect of its command. -/
theorem Effect.exec_eq (h : Effect s i c u) : exec i s = .next (u.finish c) := by
  rw [exec_eq_runOf, h.runOf_state]

theorem exists_effect_encode (e : Nat) (s : State) : ∃ c u, Effect s (.encode e) c u := by
  by_cases h : s.EncReady e
  case neg => exact ⟨_, _, .encodeBadSlot e h⟩
  by_cases hq : (s.encSlot e).seq = 2 ^ 64
  case pos => exact ⟨_, _, .encodeExhausted e h hq⟩
  cases hser : portSer s.build s.msg.pay with
  | none => exact ⟨_, _, .encodeSerFails e h hq hser⟩
  | some plain =>
  cases henc : portEncrypt s.build (s.encSlot e).key plain with
  | none => exact ⟨_, _, .encodeEncryptFails e h hq plain hser henc⟩
  | some body =>
  rcases lt_or_ge s.build.bufMax (25 + s.build.w.bytes + body.length) with hfit | hfit
  · exact ⟨_, _, .encodeTooLong e h hq plain body hser henc hfit⟩
  · exact ⟨_, _, .encodeOk e h hq plain body hser henc hfit⟩

theorem exists_effect_decode (d : Nat) (s : State) : ∃ c u, Effect s (.decode d) c u := by
  by_cases h : s.DecReady d
  case neg => exact ⟨_, _, .decodeBadSlot d h⟩
  by_cases hinv : s.PacketInvalid d
  case pos => exact ⟨_, _, .decodeRejected d h hinv⟩
  obtain ⟨hf, plain, pay, hdec, hdes⟩ := (s.not_packetInvalid_iff d).1 hinv
  exact ⟨_, _, .decodeOk d h hf plain pay hdec hdes⟩

/-- The exits are all there are: every command has an effect from every state. -/
theorem exists_effect (i : Instr) (s : State) : ∃ c u, Effect s i c u := by
  cases i with
  | crc16 =>
    rcases lt_or_ge s.plen (s.off.toNat + s.clen.toNat) with h | h
    · exact ⟨_, _, .crc16Range h⟩
    · exact ⟨_, _, .crc16Ok h⟩
  | encNew e =>
    rcases le_or_gt s.build.nEnc e with h | h
    · exact ⟨_, _, .encNewBadSlot e h⟩
    by_cases hid : s.idctr = 2 ^ (8 * s.build.w.bytes)
    · exact ⟨_, _, .encNewExhausted e h hid⟩
    · exact ⟨_, _, .encNewOk e h hid⟩
  | encode e => exact exists_effect_encode e s
  | decNew d =>
    rcases le_or_gt s.build.nDec d with h | h
    · exact ⟨_, _, .decNewBadSlot d h⟩
    · exact ⟨_, _, .decNewOk d h⟩
  | decode d => exact exists_effect_decode d s
  | tstIdrst =>
    cases h : s.build.testEn with
    | false => exact ⟨_, _, .tstIdrstIllegal h⟩
    | true => exact ⟨_, _, .tstIdrstOk h⟩

/-- A command that does not complete with `OK` has changed nothing, but for an admitted `ENCODE`, which keeps its
assignment (R127). -/
theorem Effect.of_ne_ok (h : Effect s i c u) (hc : c ≠ .ok) :
    u = s ∨ ∃ e, i = .encode e ∧ s.EncReady e ∧ (s.encSlot e).seq ≠ 2 ^ 64 ∧ u = s.assignSequence e := by
  cases h with
  | encodeSerFails e h hq => exact .inr ⟨e, rfl, h, hq, rfl⟩
  | encodeEncryptFails e h hq => exact .inr ⟨e, rfl, h, hq, rfl⟩
  | encodeTooLong e h hq => exact .inr ⟨e, rfl, h, hq, rfl⟩
  | crc16Ok | encNewOk | encodeOk | decNewOk | decodeOk | tstIdrstOk => exact absurd rfl hc
  | crc16Range | encNewBadSlot | encNewExhausted | encodeBadSlot | encodeExhausted | decNewBadSlot | decodeBadSlot
  | decodeRejected | tstIdrstIllegal => exact .inl rfl

/-! ### The invariant: what it says, and what each update of the state needs in order to keep it -/

theorem statusCode_mem (c : Completion) : statusCode c ∈ statusCodes := by
  cases c <;> decide

/-- A completion keeps the invariant: it writes one of the eight codes and leaves the sequencer at rest. -/
theorem State.Inv.finish (h : s.Inv) (c : Completion) : (s.finish c).Inv := by
  obtain ⟨hb, hpkt, hplen, hsid, hpay, hkey, hid, henc, hdec, -, -, -⟩ := h
  exact ⟨hb, hpkt, hplen, hsid, hpay, hkey, hid, henc, hdec, statusCode_mem c, rfl, rfl⟩

theorem State.Inv.sid_lt (h : s.Inv) : s.msg.sid < s.idLimit := by
  obtain ⟨-, -, -, hsid, -⟩ := h
  exact hsid

theorem State.Inv.pay_hasType (h : s.Inv) : s.msg.pay.all (payloadHasType s.build.payload) = true := by
  obtain ⟨-, -, -, -, hpay, -⟩ := h
  exact hpay

theorem State.Inv.keyin_length (h : s.Inv) : s.keyin.length = s.build.keyLen := by
  obtain ⟨-, -, -, -, -, hkey, -⟩ := h
  exact hkey

theorem State.Inv.idctr_le (h : s.Inv) : s.idctr ≤ s.idLimit := by
  obtain ⟨-, -, -, -, -, -, hid, -⟩ := h
  exact hid

theorem State.Inv.ph_idle (h : s.Inv) : s.ph = .idle := by
  obtain ⟨-, -, -, -, -, -, -, -, -, -, hph, -⟩ := h
  exact hph

/-- A constructed encoder's slot is one the invariant speaks of. -/
theorem State.Inv.encSlot (h : s.Inv) (e : Nat) (he : (s.encSlot e).valid = true) : (s.encSlot e).Inv s.build := by
  obtain ⟨-, -, -, -, -, -, -, ⟨-, hall⟩, -⟩ := h
  exact hall _ (s.encSlot_mem e (s.lt_of_encSlot_valid e he))

theorem State.Inv.setMsg (h : s.Inv) (m : Msg) (hm : m.sid < s.idLimit)
    (hp : m.pay.all (payloadHasType s.build.payload) = true) : (s.setMsg m).Inv := by
  obtain ⟨hb, hpkt, hplen, -, -, hrest⟩ := h
  exact ⟨hb, hpkt, hplen, hm, hp, hrest⟩

theorem State.Inv.setKeyin (h : s.Inv) (k : Bytes) (hk : k.length = s.build.keyLen) : (s.setKeyin k).Inv := by
  obtain ⟨hb, hpkt, hplen, hsid, hpay, -, hrest⟩ := h
  exact ⟨hb, hpkt, hplen, hsid, hpay, hk, hrest⟩

theorem State.Inv.setPlen (h : s.Inv) (n : Nat) (hn : n ≤ s.build.bufMax) : (s.setPlen n).Inv := by
  obtain ⟨hb, hpkt, -, hrest⟩ := h
  exact ⟨hb, hpkt, hn, hrest⟩

theorem State.Inv.setIdctr (h : s.Inv) (n : Nat) (hn : n ≤ s.idLimit) : (s.setIdctr n).Inv := by
  obtain ⟨hb, hpkt, hplen, hsid, hpay, hkey, -, hrest⟩ := h
  exact ⟨hb, hpkt, hplen, hsid, hpay, hkey, hn, hrest⟩

/-- Writing bytes inside the buffer keeps its canonical form and its bound. -/
theorem State.Inv.memWriteBytes (h : s.Inv) (a : Nat) (b : Bytes) (hab : a + b.length ≤ s.build.bufMax) :
    (s.memWriteBytes a b).Inv := by
  obtain ⟨hb, ⟨hwf, hbelow⟩, hrest⟩ := h
  exact ⟨hb, ⟨Memory.wf_setBytes _ _ _ hwf, Memory.below_setBytes _ _ _ _ hbelow hab⟩, hrest⟩

theorem State.Inv.setEncSlot (h : s.Inv) (e : Nat) (x : EncSlot) (hx : x.Inv s.build) : (s.setEncSlot e x).Inv := by
  obtain ⟨hb, hpkt, hplen, hsid, hpay, hkey, hid, ⟨hlen, hall⟩, hrest⟩ := h
  refine ⟨hb, hpkt, hplen, hsid, hpay, hkey, hid, ⟨by simpa using hlen, fun y hy => ?_⟩, hrest⟩
  rcases List.mem_or_eq_of_mem_set hy with hy | rfl
  · exact hall y hy
  · exact hx

theorem State.Inv.setDecSlot (h : s.Inv) (d : Nat) (x : DecSlot) (hx : x.Inv s.build) : (s.setDecSlot d x).Inv := by
  obtain ⟨hb, hpkt, hplen, hsid, hpay, hkey, hid, henc, ⟨hlen, hall⟩, hrest⟩ := h
  refine ⟨hb, hpkt, hplen, hsid, hpay, hkey, hid, henc, ⟨by simpa using hlen, fun y hy => ?_⟩, hrest⟩
  rcases List.mem_or_eq_of_mem_set hy with hy | rfl
  · exact hall y hy
  · exact hx

/-! ### The invariant under the effects of commands -/

theorem State.Inv.constructEncoder (h : s.Inv) (e : Nat) (hid : s.idctr ≠ 2 ^ (8 * s.build.w.bytes)) :
    (s.constructEncoder e).Inv := by
  have hlt : s.idctr < 2 ^ (8 * s.build.w.bytes) := lt_of_le_of_ne h.idctr_le hid
  exact (h.setEncSlot e _ ⟨hlt, Nat.zero_le _, h.keyin_length⟩).setIdctr _ hlt

theorem State.Inv.assignSequence (h : s.Inv) (e : Nat) (hr : s.EncReady e) (hq : (s.encSlot e).seq ≠ 2 ^ 64) :
    (s.assignSequence e).Inv := by
  obtain ⟨hsid, hseq, hkey⟩ := h.encSlot e hr.2
  have hmsg := h.setMsg { s.msg with sid := (s.encSlot e).sid, seq := BitVec.ofNat 64 (s.encSlot e).seq } hsid
    h.pay_hasType
  exact hmsg.setEncSlot e { s.encSlot e with seq := (s.encSlot e).seq + 1 }
    ⟨hsid, Nat.succ_le_of_lt (lt_of_le_of_ne hseq hq), hkey⟩

theorem State.Inv.encoded (h : s.Inv) (e : Nat) (hr : s.EncReady e) (hq : (s.encSlot e).seq ≠ 2 ^ 64) (body : Bytes)
    (hfit : 25 + s.build.w.bytes + body.length ≤ s.build.bufMax) : (s.encoded e body).Inv :=
  ((h.assignSequence e hr hq).memWriteBytes 0 (s.packetOf e body) (by simpa using hfit)).setPlen _ hfit

theorem State.Inv.commitMessage (h : s.Inv) (plain : Bytes) (pay : Payload) (hdes : portDes s.build plain = some pay) :
    (s.commitMessage pay).Inv :=
  h.setMsg _ (s.memRead_lt _ _) ((portDes_eq_some_iff _ _ _).1 hdes).2

/-- What a command has done before it completes is within the invariant. -/
theorem Effect.inv (he : Effect s i c u) (h : s.Inv) : u.Inv := by
  by_cases hc : c = .ok
  case neg =>
    obtain rfl | ⟨e, -, hr, hq, rfl⟩ := he.of_ne_ok hc
    · exact h
    · exact h.assignSequence e hr hq
  subst hc
  cases he with
  | crc16Ok => exact h
  | encNewOk e _ hid => exact h.constructEncoder e hid
  | encodeOk e hr hq plain body _ _ hfit => exact h.encoded e hr hq body hfit
  | decNewOk d => exact h.setDecSlot d _ h.keyin_length
  | decodeOk d _ _ plain pay _ hdes => exact h.commitMessage plain pay hdes
  | tstIdrstOk => exact h.setIdctr 0 (Nat.zero_le _)

/-! ### What no command touches -/

/-- The parameters, `OFF`, `CLEN`, `KEYIN`, the reset lifetime and the host's side are no command's to write (R22). -/
structure SameHostSide (s t : State) : Prop where
  build : t.build = s.build
  off : t.off = s.off
  clen : t.clen = s.clen
  keyin : t.keyin = s.keyin
  draw : t.draw = s.draw
  host : t.host = s.host
  reply : t.reply = s.reply

theorem Effect.sameHostSide (he : Effect s i c u) : SameHostSide s u := by
  by_cases hc : c = .ok
  case neg =>
    obtain rfl | ⟨e, -, -, -, rfl⟩ := he.of_ne_ok hc
    · exact ⟨rfl, rfl, rfl, rfl, rfl, rfl, rfl⟩
    · exact ⟨rfl, rfl, rfl, rfl, rfl, rfl, rfl⟩
  subst hc
  cases he <;> exact ⟨rfl, rfl, rfl, rfl, rfl, rfl, rfl⟩

/-- A command keeps the invariant and the parameters. -/
theorem exec_inv (h : s.Inv) (ht : exec i s = .next t) : t.Inv ∧ t.build = s.build := by
  obtain ⟨c, u, he⟩ := exists_effect i s
  rw [he.exec_eq] at ht
  cases ht
  exact ⟨(he.inv h).finish c, he.sameHostSide.build⟩

theorem issue_inv (w : BitVec 16) (h : s.Inv) (ht : issue w s = .next t) : t.Inv ∧ t.build = s.build := by
  cases hw : decode w with
  | ok i =>
    rw [issue_of_ok w i s hw] at ht
    exact exec_inv h ht
  | error e =>
    rw [issue_of_error w e s hw] at ht
    cases ht
    exact ⟨h.finish .illegalCmd, rfl⟩

/-! ### The host's accesses -/

/-- A register write that has a next state has put a value the register can hold into the register, or has issued a
command (R11 to R22, R195). -/
inductive HostWriteEffect (s : State) : State → Prop
  | off (v : BitVec 32) : HostWriteEffect s (s.setOff v)
  | clen (v : BitVec 32) : HostWriteEffect s (s.setClen v)
  | msg (m : Msg) (hsid : m.sid = s.msg.sid ∨ m.sid < s.idLimit)
      (hpay : m.pay = s.msg.pay ∨ m.pay.all (payloadHasType s.build.payload) = true) :
      HostWriteEffect s (s.setMsg m)
  | keyin (k : Bytes) (h : k.length = s.build.keyLen) : HostWriteEffect s (s.setKeyin k)
  | plen (n : Nat) (h : n ≤ s.build.bufMax) : HostWriteEffect s (s.setPlen n)
  | issued (w : BitVec 16) (t : State) (h : issue w s = .next t) : HostWriteEffect s t

/-- An outcome behind a guard that has a next state has passed the guard. -/
theorem next_of_guarded {p : Prop} [Decidable p] {o o' : Host.Outcome State Fault Refusal}
    (h : (if p then o else o') = .next t) (ho : o' ≠ .next t) : p ∧ o = .next t := by
  by_cases hp : p
  · exact ⟨hp, by rwa [if_pos hp] at h⟩
  · exact absurd (by rwa [if_neg hp] at h) ho

theorem hostWrite_effect (r : HostReg) (v : HostVal) (s t : State) (h : hostWrite r v s = .next t) :
    HostWriteEffect s t := by
  unfold hostWrite at h
  split at h
  case h_1 => obtain ⟨-, ⟨⟩⟩ := next_of_guarded h nofun; exact .off _
  case h_2 => obtain ⟨-, ⟨⟩⟩ := next_of_guarded h nofun; exact .clen _
  case h_4 => obtain ⟨hn, ⟨⟩⟩ := next_of_guarded h nofun; exact .msg _ (.inr hn) (.inl rfl)
  case h_5 => obtain ⟨-, ⟨⟩⟩ := next_of_guarded h nofun; exact .msg _ (.inl rfl) (.inl rfl)
  case h_6 => obtain ⟨-, ⟨⟩⟩ := next_of_guarded h nofun; exact .msg _ (.inl rfl) (.inl rfl)
  case h_7 => obtain ⟨-, ⟨⟩⟩ := next_of_guarded h nofun; exact .msg _ (.inl rfl) (.inl rfl)
  case h_8 => obtain ⟨hp, ⟨⟩⟩ := next_of_guarded h nofun; exact .msg _ (.inl rfl) (.inr hp)
  case h_9 => obtain ⟨hk, ⟨⟩⟩ := next_of_guarded h nofun; exact .keyin _ hk
  case h_10 => obtain ⟨hn, ⟨⟩⟩ := next_of_guarded h nofun; exact .plen _ hn
  case h_12 => obtain ⟨-, hw⟩ := next_of_guarded h nofun; exact .issued _ _ hw
  all_goals cases h

theorem hostWrite_inv (r : HostReg) (v : HostVal) (h : s.Inv) (ht : hostWrite r v s = .next t) :
    t.Inv ∧ t.build = s.build := by
  cases hostWrite_effect r v s t ht with
  | off v => exact ⟨h, rfl⟩
  | clen v => exact ⟨h, rfl⟩
  | msg m hm hp => exact ⟨h.setMsg m (hm.elim (· ▸ h.sid_lt) id) (hp.elim (· ▸ h.pay_hasType) id), rfl⟩
  | keyin k hk => exact ⟨h.setKeyin k hk, rfl⟩
  | plen n hn => exact ⟨h.setPlen n hn, rfl⟩
  | issued w _ hw => exact issue_inv w h hw

/-- A read that has a next state has written the reply and nothing else (R46). -/
theorem hostRead_next (r : HostReg) (h : hostRead r s = .next t) : ∃ v, t = s.setReply v := by
  unfold hostRead at h
  cases hv : hostValue r s with
  | some v => rw [hv] at h; cases h; exact ⟨_, rfl⟩
  | none => rw [hv] at h; cases h

/-- A read of a register that the host may not read is refused. -/
theorem hostAct_rd_forbidden (r : HostReg) (h : hostValue r s = none) :
    hostAct (.rd r) s = .refused (.hostReadForbidden r) := by
  simp only [hostAct, hostRead, h]

/-- Only the write-only registers have no value to read. -/
theorem hostValue_eq_none_iff (r : HostReg) (s : State) : hostValue r s = none ↔ r = .keyin ∨ r = .cmd := by
  cases r <;> simp [hostValue]

theorem hostWritePkt_of_le (a : Nat) (b : Bytes) (s : State) (h : a + b.length ≤ s.build.bufMax) :
    hostWritePkt a b s = .next (s.memWriteBytes a b) := if_pos h

theorem hostWritePkt_next (a : Nat) (b : Bytes) (h : hostWritePkt a b s = .next t) :
    a + b.length ≤ s.build.bufMax ∧ t = s.memWriteBytes a b := by
  obtain ⟨hab, ⟨⟩⟩ := next_of_guarded h nofun
  exact ⟨hab, rfl⟩

theorem hostReadPkt_of_le (a n : Nat) (s : State) (h : a + n ≤ s.build.bufMax) :
    hostReadPkt a n s = .next (s.setReply (some (.bytes (s.memReadBytes a n)))) := if_pos h

theorem hostReadPkt_next (a n : Nat) (h : hostReadPkt a n s = .next t) : ∃ v, t = s.setReply v := by
  obtain ⟨-, ⟨⟩⟩ := next_of_guarded h nofun
  exact ⟨_, rfl⟩

/-! ### The invariant at reset and under a host action -/

/-- A list made of one value per index holds as many values as there are indices, each of the form given. -/
theorem length_and_forall_mem_map_range {α : Type} (n : Nat) (f : Nat → α) (P : α → Prop) (h : ∀ k, P (f k)) :
    ((List.range n).map f).length = n ∧ ∀ x ∈ (List.range n).map f, P x := by
  simp [h]

@[simp] theorem State.resetOf_build (b : Build) (n : Nat) : (State.resetOf b n).build = b := rfl

theorem State.resetOf_inv (b : Build) (n : Nat) (hb : b.Legal) : (State.resetOf b n).Inv := by
  refine ⟨hb, ⟨rfl, rfl⟩, Nat.zero_le _, Nat.two_pow_pos _, rfl, by simp [State.resetOf], Nat.zero_le _,
    length_and_forall_mem_map_range _ _ _ fun e => ⟨Nat.mod_lt _ (Nat.two_pow_pos _), ?_, by simp⟩,
    length_and_forall_mem_map_range _ _ _ fun d => by simp [DecSlot.Inv], statusCode_mem .ok, rfl, rfl⟩
  exact Nat.lt_succ_iff.1 (Nat.mod_lt _ (Nat.succ_pos _))

theorem State.Inv.hardReset (h : s.Inv) : s.hardReset.Inv :=
  State.resetOf_inv s.build (s.draw + 1) h.1

theorem hostAct_inv (a : HostAct) (h : s.Inv) (ht : hostAct a s = .next t) : t.Inv ∧ t.build = s.build := by
  cases a with
  | wr r v => exact hostWrite_inv r v h ht
  | rd r =>
    obtain ⟨v, rfl⟩ := hostRead_next r ht
    exact ⟨h, rfl⟩
  | wrpkt a b =>
    obtain ⟨hab, rfl⟩ := hostWritePkt_next a b ht
    exact ⟨h.memWriteBytes a b hab, rfl⟩
  | rdpkt a n =>
    obtain ⟨v, rfl⟩ := hostReadPkt_next a n ht
    exact ⟨h, rfl⟩
  | reset =>
    cases ht
    exact ⟨h.hardReset, rfl⟩

/-- A step with a next state has changed nothing, or the host has acted on the state without its action. -/
theorem step_next (hp : s.ph = .idle) (h : step s = .next t) :
    t = s ∨ ∃ a rest, s.host = a :: rest ∧ hostAct a (s.setHost rest) = .next t := by
  cases hs : s.host with
  | nil =>
    rw [step_of_nil s hs] at h
    cases h
    exact .inl rfl
  | cons a rest =>
    rw [step_of_idle s a rest hs hp] at h
    exact .inr ⟨a, rest, rfl, h⟩

/-! ### No command reads `STATUS`, `PH` or `CUR` -/

/-- The state with other values in `STATUS`, `PH` and `CUR`, the fields every completion writes (R181). -/
def State.withCompletionFields (s : State) (v : BitVec 8) (p : Phase) (n : Nat) : State :=
  { s with status := v, ph := p, cur := n }

/-- A completion leaves no trace of what the three fields held. -/
@[simp] theorem State.finish_withCompletionFields (s : State) (v : BitVec 8) (p : Phase) (n : Nat) (c : Completion) :
    (s.withCompletionFields v p n).finish c = s.finish c := rfl

/-- No exit's condition and no exit's effect reads the three fields. -/
theorem Effect.withCompletionFields (h : Effect s i c u) (v : BitVec 8) (p : Phase) (n : Nat) :
    Effect (s.withCompletionFields v p n) i c (u.withCompletionFields v p n) := by
  cases h with
  | crc16Range h => exact .crc16Range h
  | crc16Ok h => exact .crc16Ok h
  | encNewBadSlot e h => exact .encNewBadSlot e h
  | encNewExhausted e h hid => exact .encNewExhausted e h hid
  | encNewOk e h hid => exact .encNewOk e h hid
  | encodeBadSlot e h => exact .encodeBadSlot e h
  | encodeExhausted e h hq => exact .encodeExhausted e h hq
  | encodeSerFails e h hq hser => exact .encodeSerFails e h hq hser
  | encodeEncryptFails e h hq plain hser henc => exact .encodeEncryptFails e h hq plain hser henc
  | encodeTooLong e h hq plain body hser henc hfit => exact .encodeTooLong e h hq plain body hser henc hfit
  | encodeOk e h hq plain body hser henc hfit =>
    exact .encodeOk (s := s.withCompletionFields v p n) e h hq plain body hser henc hfit
  | decNewBadSlot d h => exact .decNewBadSlot d h
  | decNewOk d h => exact .decNewOk d h
  | decodeBadSlot d h => exact .decodeBadSlot d h
  | decodeRejected d h hinv => exact .decodeRejected d h hinv
  | decodeOk d h hf plain pay hdec hdes =>
    exact .decodeOk (s := s.withCompletionFields v p n) d h hf plain pay hdec hdes
  | tstIdrstIllegal h => exact .tstIdrstIllegal h
  | tstIdrstOk h => exact .tstIdrstOk h

/-! ### The phases a command goes through -/

theorem eventPhases_append (xs ys : List Event) : eventPhases (xs ++ ys) = eventPhases xs ++ eventPhases ys := by
  induction xs with
  | nil => rfl
  | cons x xs ih => cases x <;> simp [eventPhases, ih]

/-- The phases a run has gone through so far. -/
def Run.phases (r : Run) : List Phase := eventPhases r.events

@[simp] theorem Run.phases_start (s : State) : (Run.start s).phases = [] := rfl
@[simp] theorem Run.phases_enter (r : Run) (p : Phase) : (r.enter p).phases = r.phases ++ [p] :=
  eventPhases_append _ _
@[simp] theorem Run.phases_called (r : Run) (k : Call) : (r.called k).phases = r.phases := by
  simp [Run.phases, eventPhases_append, eventPhases]
@[simp] theorem Run.phases_upd (r : Run) (f : State → State) : (r.upd f).phases = r.phases := rfl
@[simp] theorem Run.phases_reads (r : Run) (a n : Nat) : (r.reads a n).phases = r.phases := rfl

/-- From `r` on, the command goes through a non-empty initial part of the phases `ps` and ends as `r'`; through all of
them where it completes with `OK` (R24). -/
def GoesThrough (r : Run) (ps : List Phase) (r' : Run) : Prop :=
  ∃ qs, qs ≠ [] ∧ qs <+: ps ∧ r'.phases = r.phases ++ qs ∧ (r'.state.status = 0x00 → qs = ps)

/-- The command stops in its first phase, with a code that is not `OK`. -/
theorem GoesThrough.failed {r r₁ : Run} {p : Phase} (ps : List Phase) (c : Completion) (hc : statusCode c ≠ 0x00)
    (h : r₁.phases = r.phases ++ [p]) : GoesThrough r (p :: ps) (r₁.complete c) :=
  ⟨[p], by simp, by simp, h, fun hok => absurd hok hc⟩

/-- The command completes in its last phase. -/
theorem GoesThrough.last {r r₁ : Run} {p : Phase} (c : Completion) (h : r₁.phases = r.phases ++ [p]) :
    GoesThrough r [p] (r₁.complete c) :=
  ⟨[p], by simp, by simp, h, fun _ => rfl⟩

/-- The command passes its first phase and goes on with the others. -/
theorem GoesThrough.cons {r r₁ r' : Run} {p : Phase} {ps : List Phase} (h : r₁.phases = r.phases ++ [p])
    (hrest : GoesThrough r₁ ps r') : GoesThrough r (p :: ps) r' := by
  obtain ⟨qs, -, hprefix, hphases, hok⟩ := hrest
  refine ⟨p :: qs, by simp, by simpa using hprefix, ?_, fun hs => by rw [hok hs]⟩
  rw [hphases, h, List.append_assoc, List.singleton_append]

/-- The command's first phase makes a test: it stops there with a code that is not `OK`, or goes on with the others. -/
theorem GoesThrough.test {r r₁ r' : Run} {p : Phase} {ps : List Phase} {q : Prop} [Decidable q] (c : Completion)
    (hc : statusCode c ≠ 0x00) (h : r₁.phases = r.phases ++ [p]) (hrest : GoesThrough r₁ ps r') :
    GoesThrough r (p :: ps) (if q then r₁.complete c else r') := by
  split_ifs
  · exact .failed ps c hc h
  · exact .cons h hrest

theorem encodeE5_goesThrough (body : Bytes) (r : Run) : GoesThrough r [.e5, .e6, .e7] (encodeE5 body r) :=
  .cons (Run.phases_enter r .e5) (.cons (Run.phases_enter _ .e6) (.last .ok (by simp)))

theorem encodeE4_goesThrough (body : Bytes) (r : Run) : GoesThrough r [.e4, .e5, .e6, .e7] (encodeE4 body r) :=
  .test .encodeFailure (by decide) (by simp) (encodeE5_goesThrough body _)

theorem encodeE3_goesThrough (e : Nat) (plain : Bytes) (r : Run) :
    GoesThrough r [.e3, .e4, .e5, .e6, .e7] (encodeE3 e plain r) := by
  cases h : portEncrypt r.state.build (r.state.encSlot e).key plain with
  | none =>
    rw [encodeE3_fail e plain r h]
    exact .failed _ .encodeFailure (by decide) (by simp)
  | some body =>
    rw [encodeE3_ok e plain body r h]
    exact .cons (by simp) (encodeE4_goesThrough _ _)

theorem encodeE2_goesThrough (e : Nat) (r : Run) :
    GoesThrough r [.e2, .e3, .e4, .e5, .e6, .e7] (encodeE2 e r) := by
  cases h : portSer r.state.build r.state.msg.pay with
  | none =>
    rw [encodeE2_fail e r h]
    exact .failed _ .encodeFailure (by decide) (by simp)
  | some plain =>
    rw [encodeE2_ok e r plain h]
    exact .cons (by simp) (encodeE3_goesThrough _ _ _)

theorem runEncode_goesThrough (e : Nat) (s : State) :
    GoesThrough (Run.start s) (phasesOf (.encode e)) (runEncode e s) := by
  by_cases hr : s.EncReady e
  case neg =>
    rw [runEncode_badSlot e s ((s.not_encReady_iff e).1 hr)]
    exact .failed _ .badSlot (by decide) (by simp)
  by_cases hq : (s.encSlot e).seq = 2 ^ 64
  · rw [runEncode_seqExhausted e s hr.1 hr.2 hq]
    exact .failed _ .seqExhausted (by decide) (by simp)
  · rw [runEncode_ready e s hr hq]
    exact .cons (Run.phases_enter _ _) (.cons (by simp) (encodeE2_goesThrough _ _))

theorem decodeD7_goesThrough (plain : Bytes) (r : Run) : GoesThrough r [.d7, .d8] (decodeD7 plain r) := by
  cases h : portDes r.state.build plain with
  | none =>
    rw [decodeD7_fail plain r h]
    exact .failed _ .invalidPacket (by decide) (by simp)
  | some pay =>
    rw [decodeD7_ok plain r pay h]
    exact .cons (Run.phases_enter r .d7) (.last .ok (by simp))

theorem decodeD6_goesThrough (d l : Nat) (r : Run) : GoesThrough r [.d6, .d7, .d8] (decodeD6 d l r) := by
  cases h : portDecrypt r.state.build (r.state.decSlot d).key (r.state.bodyField l) with
  | none =>
    rw [decodeD6_fail d l r h]
    exact .failed _ .invalidPacket (by decide) (by simp)
  | some plain =>
    rw [decodeD6_ok d l r plain h]
    exact .cons (by simp) (decodeD7_goesThrough _ _)

theorem decodeD5_goesThrough (d l : Nat) (r : Run) : GoesThrough r [.d5, .d6, .d7, .d8] (decodeD5 d l r) :=
  .test .invalidPacket (by decide) (by simp) (decodeD6_goesThrough d l _)

theorem decodeD4_goesThrough (d : Nat) (r : Run) : GoesThrough r [.d4, .d5, .d6, .d7, .d8] (decodeD4 d r) :=
  .test .invalidPacket (by decide) (by simp) (decodeD5_goesThrough d _ _)

theorem decodeD3_goesThrough (d : Nat) (r : Run) : GoesThrough r [.d3, .d4, .d5, .d6, .d7, .d8] (decodeD3 d r) :=
  .test .invalidPacket (by decide) (by simp) (decodeD4_goesThrough d _)

theorem decodeD2_goesThrough (d : Nat) (r : Run) :
    GoesThrough r [.d2, .d3, .d4, .d5, .d6, .d7, .d8] (decodeD2 d r) :=
  .test .invalidPacket (by decide) (by simp) (decodeD3_goesThrough d _)

theorem decodeD1_goesThrough (d : Nat) (r : Run) :
    GoesThrough r [.d1, .d2, .d3, .d4, .d5, .d6, .d7, .d8] (decodeD1 d r) :=
  .test .invalidPacket (by decide) (by simp) (decodeD2_goesThrough d _)

theorem runDecode_goesThrough (d : Nat) (s : State) :
    GoesThrough (Run.start s) (phasesOf (.decode d)) (runDecode d s) :=
  .test .badSlot (by decide) (by simp) (decodeD1_goesThrough d _)

/-- Every command goes through its own list of phases. -/
theorem runOf_goesThrough (i : Instr) (s : State) : GoesThrough (Run.start s) (phasesOf i) (runOf i s) := by
  cases i with
  | crc16 => exact .test .range (by decide) (Run.phases_enter _ _) (.last .ok (by simp))
  | encNew e =>
    rw [runOf, runEncNew]
    split_ifs <;> exact .last _ (by simp)
  | encode e => exact runEncode_goesThrough e s
  | decNew d =>
    rw [runOf, runDecNew]
    split_ifs <;> exact .last _ (by simp)
  | decode d => exact runDecode_goesThrough d s
  | tstIdrst =>
    rw [runOf, runTstIdrst]
    split_ifs <;> exact .last _ (by simp)

theorem phasesOf_nodup (i : Instr) : (phasesOf i).Nodup := by
  cases i <;> simp [phasesOf]

/-! ### Reset -/

/-- No encoder is constructed after reset, whatever the index. -/
theorem State.resetOf_encSlot_valid (b : Build) (n e : Nat) : ((State.resetOf b n).encSlot e).valid = false := by
  rcases lt_or_ge e b.nEnc with h | h <;> simp [State.encSlot, State.resetOf, h]

theorem State.resetOf_decSlot_valid (b : Build) (n d : Nat) : ((State.resetOf b n).decSlot d).valid = false := by
  rcases lt_or_ge d b.nDec with h | h <;> simp [State.decSlot, State.resetOf, h]

end

/-! ### The statements -/

/-- Settles O46: the step lemma of the invariant, by the host's next action. -/
theorem stepKeepsTheInvariant : Obligations.StepKeepsTheInvariant := by
  intro s t h ht
  obtain rfl | ⟨a, rest, -, hact⟩ := step_next h.ph_idle ht
  · exact ⟨h, rfl⟩
  · exact hostAct_inv (s := s.setHost rest) a h hact

/-- Settles O40: each command's effect is compared with the state it began in, exit by exit. -/
theorem commandsWriteOnlyTheirOwnRegisters : Obligations.CommandsWriteOnlyTheirOwnRegisters := by
  intro i s
  obtain ⟨c, u, he⟩ := exists_effect i s
  obtain ⟨hbuild, hoff, hclen, hkeyin, hdraw, hhost, hreply⟩ := he.sameHostSide
  refine ⟨_, he.exec_eq, hbuild, hoff, hclen, hkeyin, hdraw, hhost, hreply, ?_⟩
  by_cases hc : c = .ok
  case neg =>
    obtain rfl | ⟨e, rfl, -, -, rfl⟩ := he.of_ne_ok hc
    · simp
    · simp [State.assignSequence_msg]
  subst hc
  cases he with
  | crc16Ok => simp [statusCode]
  | encNewOk e => simp [statusCode]
  | encodeOk e => simp [statusCode, State.encoded, State.assignSequence_msg]
  | decNewOk d => simp [statusCode]
  | decodeOk d => simp [statusCode]
  | tstIdrstOk => simp [statusCode]

/-- Settles O42: the same exit is taken, and the completion overwrites the three fields. -/
theorem noCommandReadsStatus : Obligations.NoCommandReadsStatus := by
  intro i s v p n
  obtain ⟨c, u, he⟩ := exists_effect i s
  calc exec i (s.withCompletionFields v p n)
      = .next ((u.withCompletionFields v p n).finish c) := (he.withCompletionFields v p n).exec_eq
    _ = exec i s := by rw [State.finish_withCompletionFields, he.exec_eq]

/-- Settles O43: every run goes through its list phase by phase, and stops early only with a code that is not `OK`. -/
theorem phasesAdvanceInOrder : Obligations.PhasesAdvanceInOrder := by
  intro i s
  obtain ⟨qs, hne, hprefix, hphases, hok⟩ := runOf_goesThrough i s
  have hvisited : phasesVisited i s = qs := hphases
  rw [hvisited]
  exact ⟨exec_eq_runOf i s, hne, hprefix, phasesOf_nodup i, hok⟩

/-- Settles O5: the host's next action is the write, and the write issues the word. -/
theorem stepRunsTheDecodedCommand : Obligations.StepRunsTheDecodedCommand := by
  have hrun (s : State) (w : BitVec 16) (i : Instr) (rest : List HostAct) (hp : s.ph = .idle)
      (hs : s.host = .wr .cmd (.nat w.toNat) :: rest) (hw : decode w = .ok i) : step s = exec i (s.setHost rest) := by
    rw [step_of_idle s _ rest hs hp, hostAct, hostWrite_cmd, issue_of_ok w i _ hw]
  exact ⟨hrun, fun s w i hp hw => hrun (s.withFetchWord 16 w.toNat) w i s.host hp rfl hw⟩

/-- Settles O47: the free values of reset are reduced to the ranges of their fields. -/
theorem resetStateMeetsTheInvariant : Obligations.ResetStateMeetsTheInvariant :=
  ⟨State.resetOf_inv, State.resetOf_inv _ 0 (by decide)⟩

/-- Settles O50: each value is read off `State.resetOf`, the model's own reset state being one of these. -/
theorem resetStateHoldsTheStatedValues : Obligations.ResetStateHoldsTheStatedValues := by
  intro b n s hs
  have hreset : ∃ b n, s = State.resetOf b n := hs.elim (fun h => ⟨b, n, h⟩) fun h => ⟨Config.build, 0, h⟩
  obtain ⟨b, n, rfl⟩ := hreset
  exact ⟨rfl, State.resetOf_encSlot_valid b n, State.resetOf_decSlot_valid b n, rfl, rfl, rfl, rfl, rfl, rfl, rfl,
    rfl, rfl, rfl, rfl, rfl⟩

/-- Settles O51: each register's value is what `RD` answers, and a register with no value to read is refused. -/
theorem hostReadsChangeNothing : Obligations.HostReadsChangeNothing := by
  refine ⟨fun s rest hp => ⟨fun x hx hs => ?_, fun a n hs h => ?_, fun r hs => ?_⟩, step_of_nil⟩
  · have hv : hostValue x.1 (s.setHost rest) = some x.2 := by
      simp only [List.mem_cons, List.not_mem_nil, or_false] at hx
      rcases hx with rfl | rfl | rfl | rfl | rfl | rfl | rfl | rfl | rfl | rfl <;> rfl
    rw [step_of_idle s _ rest hs hp, hostAct_rd _ _ _ hv]
    rfl
  · rw [step_of_idle s _ rest hs hp, hostAct, hostReadPkt_of_le a n (s.setHost rest) h]
    rfl
  · rw [step_of_idle s _ rest hs hp, ← hostValue_eq_none_iff r (s.setHost rest)]
    cases hv : hostValue r (s.setHost rest) with
    | none => simp [hostAct_rd_forbidden r hv]
    | some v => simp [hostAct_rd r v _ hv]

/-- Settles O52: each value meets its register's guard, and the write is the register's update. -/
theorem hostWritesLandWhereTheyAreAddressed : Obligations.HostWritesLandWhereTheyAreAddressed := by
  intro s rest hp
  have hstep (a : HostAct) (hs : s.host = a :: rest) : step s = hostAct a (s.setHost rest) :=
    step_of_idle s a rest hs hp
  refine ⟨fun n h hs => ?_, fun n h hs => ?_, fun n h hs => ?_, fun n h hs => ?_, fun n hlo hhi hs => ?_,
    fun n hlo hhi hs => ?_, fun p h hs => ?_, fun k h hs => ?_, fun n h hs => ?_, fun a b h hs => ?_,
    fun r v hr hs => ?_⟩ <;> rw [hstep _ hs]
  · exact if_pos h
  · exact if_pos h
  · exact if_pos h
  · exact if_pos h
  · exact ⟨_, if_pos ⟨hlo, hhi⟩, BitVec.toInt_ofInt_eq_self (by decide) hlo hhi, rfl⟩
  · exact ⟨_, if_pos ⟨hlo, hhi⟩, BitVec.toInt_ofInt_eq_self (by decide) hlo hhi, rfl⟩
  · exact if_pos h
  · exact if_pos h
  · exact if_pos h
  · refine ⟨_, hostWritePkt_of_le a b _ h, rfl, State.memReadBytes_memWriteBytes_self _ a b, fun x hx => ?_⟩
    rw [State.pktByte_memWriteBytes, dif_neg (by omega)]
    rfl
  · rcases hr with rfl | rfl <;> rfl

end Sys2Proof.Machine
end

section
/-! PROOFS. The family 20_memory.md: which bytes of the packet buffer `ENCODE` changes, and which collaborators a
command calls, in which order. -/

namespace Sys2Proof.Machine

/-! ### The packet buffer after `ENCODE` (R47, R126, R127) -/

theorem statusCode_eq_zero_iff (c : Completion) : statusCode c = 0x00 ↔ c = .ok := by
  cases c <;> simp [statusCode]

@[simp] theorem State.encoded_plen (s : State) (e : Nat) (body : Bytes) :
    (s.encoded e body).plen = 25 + s.build.w.bytes + body.length := rfl

/-- A successful `ENCODE` leaves the buffer as one write of the packet at offset 0 leaves it. -/
theorem State.pktByte_encoded (s : State) (e : Nat) (body : Bytes) (a : Nat) :
    (s.encoded e body).pktByte a = (s.memWriteBytes 0 (s.packetOf e body)).pktByte a := rfl

/-- The bytes below the new `PLEN` are the packet. -/
theorem State.memReadBytes_encoded (s : State) (e : Nat) (body : Bytes) :
    (s.encoded e body).memReadBytes 0 (s.encoded e body).plen = s.packetOf e body := by
  have h := s.memReadBytes_memWriteBytes_self 0 (s.packetOf e body)
  rwa [State.packetOf_length] at h

/-- The bytes at and above the new `PLEN` are what they were. -/
theorem State.pktByte_encoded_of_le (s : State) (e : Nat) (body : Bytes) (a : Nat)
    (ha : (s.encoded e body).plen ≤ a) : (s.encoded e body).pktByte a = s.pktByte a := by
  rw [State.encoded_plen] at ha
  rw [State.pktByte_encoded, State.pktByte_memWriteBytes, dif_neg (by rw [State.packetOf_length]; omega)]

/-- A command that does not complete with `OK` leaves the buffer and `PLEN` alone. -/
theorem Effect.pkt_plen_of_ne_ok {s u : State} {i : Instr} {c : Completion} (he : Effect s i c u) (hc : c ≠ .ok) :
    u.pkt = s.pkt ∧ u.plen = s.plen := by
  obtain rfl | ⟨e, -, -, -, rfl⟩ := he.of_ne_ok hc
  · exact ⟨rfl, rfl⟩
  · exact ⟨s.assignSequence_pkt e, s.assignSequence_plen e⟩

/-! ### The collaborator calls of a run (R55) -/

theorem eventCalls_append (xs ys : List Event) : eventCalls (xs ++ ys) = eventCalls xs ++ eventCalls ys := by
  induction xs with
  | nil => rfl
  | cons x xs ih => cases x <;> simp [eventCalls, ih]

/-- The collaborator calls a run has made so far. -/
def Run.calls (r : Run) : List Call := eventCalls r.events

@[simp] theorem Run.calls_start (s : State) : (Run.start s).calls = [] := rfl
@[simp] theorem Run.calls_enter (r : Run) (p : Phase) : (r.enter p).calls = r.calls := by
  simp [Run.calls, eventCalls_append, eventCalls]
@[simp] theorem Run.calls_called (r : Run) (k : Call) : (r.called k).calls = r.calls ++ [k] :=
  eventCalls_append _ _
@[simp] theorem Run.calls_upd (r : Run) (f : State → State) : (r.upd f).calls = r.calls := rfl
@[simp] theorem Run.calls_reads (r : Run) (a n : Nat) : (r.reads a n).calls = r.calls := rfl
@[simp] theorem Run.calls_complete (r : Run) (c : Completion) : (r.complete c).calls = r.calls := rfl
@[simp] theorem Run.calls_raiseInvalidPacket (r : Run) : r.raiseInvalidPacket.calls = r.calls := rfl
@[simp] theorem Run.calls_raiseEncodeFailure (r : Run) : r.raiseEncodeFailure.calls = r.calls := rfl

/-- A test of `DECODE` that rejects calls no collaborator: no call is made where what follows the passed test makes
none. -/
theorem Run.calls_test {r r₁ r' : Run} {q : Prop} [Decidable q] (h : r₁.calls = r.calls)
    (hrest : ¬ q → r'.calls = r₁.calls) : (if q then r₁.raiseInvalidPacket else r').calls = r.calls := by
  split_ifs with hq
  · exact h
  · exact (hrest hq).trans h

/-! ### The commands that call none -/

theorem runCrc16_calls (s : State) : (runCrc16 s).calls = [] := by
  rw [runCrc16]
  split_ifs <;> simp [crc16C1]

theorem runEncNew_calls (e : Nat) (s : State) : (runEncNew e s).calls = [] := by
  rw [runEncNew]
  split_ifs <;> simp

theorem runDecNew_calls (d : Nat) (s : State) : (runDecNew d s).calls = [] := by
  rw [runDecNew]
  split_ifs <;> simp

theorem runTstIdrst_calls (s : State) : (runTstIdrst s).calls = [] := by
  rw [runTstIdrst]
  split_ifs <;> simp

/-! ### `ENCODE` -/

/-- The length test and the writing phases call none. -/
theorem encodeE4_calls (body : Bytes) (r : Run) : (encodeE4 body r).calls = r.calls := by
  rw [encodeE4]
  split_ifs <;> simp [encodeE5, encodeE6, encodeE7]

theorem encodeE3_calls (e : Nat) (plain : Bytes) (r : Run) :
    (encodeE3 e plain r).calls = r.calls ++ [.encrypt (r.state.encSlot e).key plain] := by
  cases h : portEncrypt r.state.build (r.state.encSlot e).key plain with
  | none => simp [encodeE3_fail e plain r h]
  | some body => simp [encodeE3_ok e plain body r h, encodeE4_calls]

theorem encodeE2_calls (e : Nat) (r : Run) :
    (encodeE2 e r).calls = r.calls ++ .ser r.state.msg.pay ::
      (portSer r.state.build r.state.msg.pay).toList.map fun plain => .encrypt (r.state.encSlot e).key plain := by
  cases h : portSer r.state.build r.state.msg.pay with
  | none => simp [encodeE2_fail e r h]
  | some plain => simp [encodeE2_ok e r plain h, encodeE3_calls]

theorem runEncode_calls_eq_nil (e : Nat) (s : State) (h : ¬ s.EncReady e ∨ (s.encSlot e).seq = 2 ^ 64) :
    (runEncode e s).calls = [] := by
  by_cases hr : s.EncReady e
  case neg => simp [runEncode_badSlot e s ((s.not_encReady_iff e).1 hr)]
  simp [runEncode_seqExhausted e s hr.1 hr.2 (h.resolve_left (not_not.2 hr))]

/-- The assignment changes neither the payload nor the slot's key, so the calls are made with those of `s`. -/
theorem runEncode_calls (e : Nat) (s : State) (hr : s.EncReady e) (hq : (s.encSlot e).seq ≠ 2 ^ 64) :
    (runEncode e s).calls = .ser s.msg.pay ::
      (portSer s.build s.msg.pay).toList.map fun plain => .encrypt (s.encSlot e).key plain := by
  have hkey := s.encSlot_assignSequence_key e hr.2
  rw [runEncode_ready e s hr hq, encodeE2_calls]
  simp [hkey, State.assignSequence_msg]

/-! ### `DECODE` -/

/-- A frame that is not intact fails one of `D1` to `D5`, which call none. -/
theorem decodeD1_calls_of_not_intact (d : Nat) (r : Run) (h : ¬ r.state.FrameIntact) :
    (decodeD1 d r).calls = r.calls := by
  rw [decodeD1]
  refine Run.calls_test (by simp) fun hlen => ?_
  rw [decodeD2]
  refine Run.calls_test (by simp) fun hmagic => ?_
  rw [decodeD3]
  refine Run.calls_test (by simp) fun hcheck1 => ?_
  rw [decodeD4]
  refine Run.calls_test (by simp) fun htotal => ?_
  simp only [Run.reads_state, Run.enter_state, State.magicWrong_setPh, State.check1Wrong_setPh,
    State.check1Wrong_advance, State.totalField_setPh, State.totalField_advance, State.advance_plen,
    State.setPh_plen, Bool.not_eq_true, not_not] at hlen hmagic hcheck1 htotal
  have hcheck2 : r.state.check2Wrong r.state.bodyLen = true := by
    refine Bool.eq_true_of_not_eq_false fun hcheck2 => h ?_
    exact ⟨r.state.tooShort_eq_false.1 hlen, r.state.magicWrong_eq_false.1 hmagic,
      r.state.check1Wrong_eq_false.1 hcheck1, htotal, (r.state.check2Wrong_eq_false _).1 hcheck2⟩
  rw [decodeD5_fail _ _ _ (by simpa [htotal, State.bodyLen_eq] using hcheck2)]
  simp

theorem decodeD7_calls (plain : Bytes) (r : Run) : (decodeD7 plain r).calls = r.calls ++ [.des plain] := by
  cases h : portDes r.state.build plain with
  | none => simp [decodeD7_fail plain r h]
  | some pay => simp [decodeD7_ok plain r pay h, decodeD8_eq]

theorem decodeD6_calls (d l : Nat) (r : Run) :
    (decodeD6 d l r).calls = r.calls ++ .decrypt (r.state.decSlot d).key (r.state.bodyField l) ::
      (portDecrypt r.state.build (r.state.decSlot d).key (r.state.bodyField l)).toList.map fun plain => .des plain := by
  cases h : portDecrypt r.state.build (r.state.decSlot d).key (r.state.bodyField l) with
  | none => simp [decodeD6_fail d l r h]
  | some plain => simp [decodeD6_ok d l r plain h, decodeD7_calls]

theorem runDecode_calls_eq_nil (d : Nat) (s : State) (h : ¬ s.DecReady d ∨ ¬ s.FrameIntact) :
    (runDecode d s).calls = [] := by
  by_cases hr : s.DecReady d
  case neg => simp [runDecode_badSlot d s ((s.not_decReady_iff d).1 hr)]
  have hf : ¬ s.FrameIntact := h.resolve_left (not_not.2 hr)
  rw [runDecode_admitted d s hr.1 hr.2, decodeD1_calls_of_not_intact d _ hf]
  simp

/-- `D1` to `D5` change neither the buffer nor the slots, so the calls are made with the body and the key of `s`. -/
theorem runDecode_calls (d : Nat) (s : State) (hr : s.DecReady d) (hf : s.FrameIntact) :
    (runDecode d s).calls = .decrypt (s.decSlot d).key s.bodyBytes ::
      (portDecrypt s.build (s.decSlot d).key s.bodyBytes).toList.map fun plain => .des plain := by
  obtain ⟨r, hrun, hstate, hevents⟩ := decodeD1_of_intact d ((Run.start s).enter .d0) hf
  have hcalls : r.calls = [] := by simp [Run.calls, hevents, eventCalls]
  rw [runDecode_admitted d s hr.1 hr.2, hrun, decodeD6_calls, hcalls, hstate]
  rfl

/-! ### The statements -/

/-- Settles O21: the exits with another code than `OK` write no byte, and the one with `OK` writes the packet at offset
0. -/
theorem encodeStoresOnlyThePacketBytes : Obligations.EncodeStoresOnlyThePacketBytes := by
  intro e s
  obtain ⟨c, u, he⟩ := exists_effect_encode e s
  refine ⟨u.finish c, he.exec_eq, fun hs => ?_, fun hs => ?_⟩
  · exact he.pkt_plen_of_ne_ok fun hc => hs ((statusCode_eq_zero_iff c).2 hc)
  · obtain rfl : c = .ok := (statusCode_eq_zero_iff c).1 hs
    cases he with
    | encodeOk _ hr hq plain body hser henc hfit =>
      exact ⟨plain, body, hser, henc, rfl, hfit, s.memReadBytes_encoded e body, s.pktByte_encoded_of_le e body⟩

/-- Settles O44: command by command, the calls its run makes. -/
theorem collaboratorsAreCalledInOrder : Obligations.CollaboratorsAreCalledInOrder := by
  intro k s
  exact ⟨⟨runCrc16_calls s, runEncNew_calls k s, runDecNew_calls k s, runTstIdrst_calls s⟩,
    runEncode_calls_eq_nil k s, runEncode_calls k s, runDecode_calls_eq_nil k s, runDecode_calls k s⟩

end Sys2Proof.Machine
end

section
/-! PROOFS. The family 30_encoding.md: the decoder said once, by the two fields of a word, and the pseudo-commands as
runs of host actions. -/

namespace Sys2Proof.Machine

/-! ### The decoder, by the two fields of a word (R77, R78, R80) -/

/-- The well-formed commands are those whose slot operand fits its field. -/
theorem wellFormed_iff_slot_lt (i : Instr) : i.WellFormed ↔ i.slot < 256 := by
  cases i <;> simp [Instr.slot]

/-- The encoding of a well-formed command as a number. -/
theorem encode_toNat (i : Instr) (h : i.slot < 256) : (encode i).toNat = i.op.toNat * 256 + i.slot :=
  (Laws.EncodingFields.of_slot i h).1

/-- A word decodes to the command that has its high byte as operation code and its low byte as slot operand, and to no
other. -/
theorem decode_eq_ok_iff (w : BitVec 16) (i : Instr) :
    decode w = .ok i ↔ w.toNat / 256 = i.op.toNat ∧ w.toNat % 256 = i.slot := by
  rw [← opOf_toNat, ← slotOf_toNat, BitVec.toNat_inj]
  constructor
  · intro h
    simp only [decode] at h
    split_ifs at h with h1 hslot h2 h3 h4 h5 hF hslot <;> cases h
    · exact ⟨h1, by rw [hslot]; rfl⟩
    · exact ⟨h2, rfl⟩
    · exact ⟨h3, rfl⟩
    · exact ⟨h4, rfl⟩
    · exact ⟨h5, rfl⟩
    · exact ⟨hF, by rw [hslot]; rfl⟩
  · rintro ⟨hop, hslot⟩
    have hzero (h0 : i.slot = 0) : slotOf w = 0 := BitVec.eq_of_toNat_eq (hslot.trans h0)
    cases i with
    | crc16 => simp [decode, hop, hzero rfl, Instr.op]
    | encNew e => simp [decode, hop, hslot, Instr.op, Instr.slot]
    | encode e => simp [decode, hop, hslot, Instr.op, Instr.slot]
    | decNew d => simp [decode, hop, hslot, Instr.op, Instr.slot]
    | decode d => simp [decode, hop, hslot, Instr.op, Instr.slot]
    | tstIdrst => simp [decode, hop, hzero rfl, Instr.op]

theorem decode_encode (i : Instr) (h : i.WellFormed) : decode (encode i) = .ok i := by
  have hslot : i.slot < 256 := (wellFormed_iff_slot_lt i).1 h
  rw [decode_eq_ok_iff, encode_toNat i hslot]
  omega

/-- The slot operand read from a word fits the field it was read from. -/
theorem wellFormed_of_decode (w : BitVec 16) (i : Instr) (h : decode w = .ok i) : i.WellFormed := by
  obtain ⟨-, hslot⟩ := (decode_eq_ok_iff w i).1 h
  exact (wellFormed_iff_slot_lt i).2 (hslot ▸ Nat.mod_lt _ (by decide))

/-! ### The words that are no command (R80) -/

/-- A word that is not on the list of R80 decodes. -/
theorem exists_decode_of_not_illegalWord (b : Build) (w : BitVec 16) (h : ¬ IllegalWord b w) :
    ∃ i, decode w = .ok i := by
  obtain ⟨hop, hslot, -⟩ : w.toNat / 256 ∈ [1, 2, 3, 4, 5, 15] ∧
      (w.toNat / 256 = 1 ∨ w.toNat / 256 = 15 → w.toNat % 256 = 0) ∧ ¬ (w.toNat / 256 = 15 ∧ b.testEn = false) := by
    simpa only [IllegalWord, not_or, not_and, not_not] using h
  simp only [decode_eq_ok_iff]
  simp only [List.mem_cons, List.not_mem_nil, or_false] at hop
  rcases hop with hop | hop | hop | hop | hop | hop
  · exact ⟨.crc16, hop, hslot (.inl hop)⟩
  · exact ⟨.encNew (w.toNat % 256), hop, rfl⟩
  · exact ⟨.encode (w.toNat % 256), hop, rfl⟩
  · exact ⟨.decNew (w.toNat % 256), hop, rfl⟩
  · exact ⟨.decode (w.toNat % 256), hop, rfl⟩
  · exact ⟨.tstIdrst, hop, hslot (.inr hop)⟩

/-- Of the words on the list of R80 only one decodes: that of `TST.IDRST`, in a production build. -/
theorem eq_tstIdrst_of_illegalWord (b : Build) (w : BitVec 16) (i : Instr) (h : IllegalWord b w)
    (hd : decode w = .ok i) : i = .tstIdrst ∧ b.testEn = false := by
  obtain ⟨hop, hslot⟩ := (decode_eq_ok_iff w i).1 hd
  rw [IllegalWord, hop, hslot] at h
  cases i with
  | tstIdrst => exact ⟨rfl, by simpa [Instr.op, Instr.slot] using h⟩
  | crc16 | encNew | encode | decNew | decode => simp [Instr.op, Instr.slot] at h

/-- An illegal word completes with `ILLEGAL_CMD` and changes no other state, whether the decoder rejects it or
`TST.IDRST` itself does (R175). -/
theorem issue_of_illegalWord (w : BitVec 16) (s : State) (h : IllegalWord s.build w) :
    issue w s = .next (s.finish .illegalCmd) := by
  cases hd : decode w with
  | error e => exact issue_of_error w e s hd
  | ok i =>
    obtain ⟨rfl, htest⟩ := eq_tstIdrst_of_illegalWord s.build w i h hd
    rw [issue_of_ok w _ s hd, (Effect.tstIdrstIllegal htest).exec_eq]

/-! ### Runs of host actions (R84) -/

section

variable {s t : State} {vs : List HostVal} {as : List HostAct}

/-- A register write that comes first puts its value there, and the others follow. -/
theorem hostDoAll_wr (r : HostReg) (v : HostVal) (hp : s.ph = .idle) (hw : hostWrite r v s = .next t) :
    hostDoAll (.wr r v :: as) ⟨s, vs⟩ = hostDoAll as ⟨t, vs⟩ := by
  rw [hostDoAll_cons (.wr r v) as s t vs hp hw, HostAct.returned_wr, List.append_nil]

/-- Loading a packet: its bytes into the buffer from offset 0 on, and their number into `PLEN`. -/
theorem hostDoAll_load (b : Bytes) (hp : s.ph = .idle) (hb : b.length ≤ s.build.bufMax) :
    hostDoAll (.wrpkt 0 b :: .wr .plen (.nat b.length) :: as) ⟨s, vs⟩ =
      hostDoAll as ⟨(s.memWriteBytes 0 b).setPlen b.length, vs⟩ := by
  have hload : hostAct (.wrpkt 0 b) s = .next (s.memWriteBytes 0 b) := hostWritePkt_of_le 0 b s (by omega)
  rw [hostDoAll_cons _ _ s _ vs hp hload, HostAct.returned_wrpkt, List.append_nil]
  exact hostDoAll_wr .plen _ hp (if_pos hb)

/-- Reads one after another: what the host has read before does not matter to the next. -/
theorem hostDoAll_rd_setReply (r : HostReg) (v : HostVal) (x : Option HostVal) (hp : s.ph = .idle)
    (hv : hostValue r s = some v) :
    hostDoAll (.rd r :: as) ⟨s.setReply x, vs⟩ = hostDoAll as ⟨s.setReply (some v), vs ++ [v]⟩ :=
  hostDoAll_rd r v as _ vs hp ((hostValue_setReply r s x).trans hv)

theorem hostDoAll_rdpkt_setReply (a n : Nat) (x : Option HostVal) (hp : s.ph = .idle)
    (h : a + n ≤ s.build.bufMax) :
    hostDoAll (.rdpkt a n :: as) ⟨s.setReply x, vs⟩ =
      hostDoAll as ⟨s.setReply (some (.bytes (s.memReadBytes a n))), vs ++ [.bytes (s.memReadBytes a n)]⟩ :=
  hostDoAll_cons _ as (s.setReply x) _ vs hp (hostReadPkt_of_le a n (s.setReply x) h)

/-- Loading a range: its offset and length (R95). -/
theorem hostDoAll_loadRange (offset length : Nat) (hp : s.ph = .idle) (ho : offset < 2 ^ 32) (hl : length < 2 ^ 32) :
    hostDoAll (.wr .off (.nat offset) :: .wr .clen (.nat length) :: as) ⟨s, vs⟩ =
      hostDoAll as ⟨(s.setOff (BitVec.ofNat 32 offset)).setClen (BitVec.ofNat 32 length), vs⟩ :=
  Eq.trans (hostDoAll_wr .off _ hp (if_pos ho)) (hostDoAll_wr .clen _ hp (if_pos hl))

/-- Loading a message: its tags and its payload; identity and sequence number stay. -/
theorem hostDoAll_loadMessage (grp sub : Int) (pay : Option Payload) (hp : s.ph = .idle)
    (hg : -2 ^ 31 ≤ grp ∧ grp < 2 ^ 31) (hs : -2 ^ 31 ≤ sub ∧ sub < 2 ^ 31)
    (hpay : pay.all (payloadHasType s.build.payload) = true) :
    hostDoAll (.wr .grp (.int grp) :: .wr .sub (.int sub) :: .wr .pay (.payload pay) :: as) ⟨s, vs⟩ =
      hostDoAll as
        ⟨s.setMsg { s.msg with grp := BitVec.ofInt 32 grp, sub := BitVec.ofInt 32 sub, pay := pay }, vs⟩ :=
  Eq.trans (hostDoAll_wr .grp _ hp (if_pos hg))
    (Eq.trans (hostDoAll_wr .sub _ hp (if_pos hs)) (hostDoAll_wr .pay _ hp (if_pos hpay)))

/-- Reading a packet: the bytes below `PLEN`, and the message's identity and sequence number. -/
theorem hostDoAll_readPacket (v : HostVal) (x : Option HostVal) (hp : s.ph = .idle) (h : s.plen ≤ s.build.bufMax) :
    hostDoAll (readsOfPacket [v, .nat s.plen]) ⟨s.setReply x, [v, .nat s.plen]⟩ =
      .next ⟨s.setReply (some (.nat s.msg.seq.toNat)),
        [v, .nat s.plen, .bytes (s.memReadBytes 0 s.plen), .nat s.msg.sid, .nat s.msg.seq.toNat]⟩ := by
  rw [readsOfPacket, hostDoAll_rdpkt_setReply 0 s.plen x hp (by omega), hostDoAll_rd_setReply .sid _ _ hp rfl,
    hostDoAll_rd_setReply .seq _ _ hp rfl]
  rfl

/-- Reading a message: its five registers. -/
theorem hostDoAll_readMessage (v : HostVal) (x : Option HostVal) (hp : s.ph = .idle) :
    hostDoAll [.rd .sid, .rd .seq, .rd .grp, .rd .sub, .rd .pay] ⟨s.setReply x, [v]⟩ =
      .next ⟨s.setReply (some (.payload s.msg.pay)),
        [v, .nat s.msg.sid, .nat s.msg.seq.toNat, .int s.msg.grp.toInt, .int s.msg.sub.toInt, .payload s.msg.pay]⟩ := by
  rw [hostDoAll_rd_setReply .sid _ _ hp rfl, hostDoAll_rd_setReply .seq _ _ hp rfl,
    hostDoAll_rd_setReply .grp _ _ hp rfl, hostDoAll_rd_setReply .sub _ _ hp rfl,
    hostDoAll_rd_setReply .pay _ _ hp rfl]
  rfl

/-- The part every pseudo-command has: between commands the host issues a command and reads `STATUS`. The command has a
next state, which is again one between commands. -/
theorem exists_hostDoAll_writeCmd_status (i : Instr) (s : State) (hi : i.WellFormed) (hp : s.ph = .idle) :
    ∃ t, exec i s = .next t ∧ t.ph = .idle ∧ ∀ as vs, hostDoAll (writeCmd i :: .rd .status :: as) ⟨s, vs⟩ =
      hostDoAll as ⟨t.setReply (some (.nat t.status.toNat)), vs ++ [.nat t.status.toNat]⟩ := by
  obtain ⟨c, u, he⟩ := exists_effect i s
  refine ⟨u.finish c, he.exec_eq, rfl, fun as vs => ?_⟩
  have hcmd : hostAct (writeCmd i) s = .next (u.finish c) := by
    rw [hostAct_writeCmd i s (decode_encode i hi), he.exec_eq]
  rw [hostDoAll_cons _ _ s _ vs hp hcmd, returned_writeCmd, List.append_nil]
  exact hostDoAll_rd .status _ as _ vs rfl rfl

/-- What follows a `STATUS` just read happens exactly where it is `OK`. -/
theorem thenDo_onOk (v : BitVec 8) :
    thenDo (.next ⟨s, [.nat v.toNat]⟩) (onOk as) =
      if v = 0x00 then hostDoAll as ⟨s, [.nat 0]⟩ else .next ⟨s, [.nat v.toNat]⟩ := by
  by_cases h : v = 0x00
  · subst h; rfl
  · have hne : v.toNat ≠ 0 := fun h0 => h (BitVec.eq_of_toNat_eq h0)
    rw [if_neg h, thenDo_next, onOk_failed as _ [] hne, hostDoAll_nil]

end

/-- After an `ENCODE` with `OK` the buffer holds all bytes below `PLEN`, so the host may read them (R126). -/
theorem plen_le_of_exec_encode (e : Nat) (s t : State) (ht : exec (.encode e) s = .next t) (hok : t.status = 0x00) :
    t.plen ≤ t.build.bufMax := by
  obtain ⟨c, u, he⟩ := exists_effect_encode e s
  rw [he.exec_eq] at ht
  cases ht
  obtain rfl : c = .ok := (statusCode_eq_zero_iff c).1 hok
  cases he with
  | encodeOk _ hr hq plain body hser henc hfit => exact hfit

/-! ### The five pseudo-commands -/

theorem exists_pseudoCrc16_eq (s : State) (bytes : Bytes) (offset length : Nat) (hp : s.ph = .idle)
    (hb : bytes.length ≤ s.build.bufMax) (ho : offset < 2 ^ 32) (hl : length < 2 ^ 32) :
    ∃ t, exec .crc16 ((((s.memWriteBytes 0 bytes).setPlen bytes.length).setOff (BitVec.ofNat 32 offset)).setClen
        (BitVec.ofNat 32 length)) = .next t ∧
      pseudoCrc16 bytes offset length s =
        .next (t.setReply (some (.nat t.crc.toNat)), .reads [.nat t.status.toNat, .nat t.crc.toNat]) := by
  obtain ⟨t, ht, htp, hrun⟩ := exists_hostDoAll_writeCmd_status .crc16
    ((((s.memWriteBytes 0 bytes).setPlen bytes.length).setOff (BitVec.ofNat 32 offset)).setClen
      (BitVec.ofNat 32 length)) trivial hp
  refine ⟨t, ht, ?_⟩
  rw [pseudoCrc16, ifLoadable_of_le s bytes _ hb, Session.start, hostDoAll_load bytes hp hb,
    hostDoAll_loadRange offset length ?_ ho hl, hrun, hostDoAll_rd_setReply .crc _ _ htp rfl]
  · rfl
  · exact hp

theorem exists_pseudoEncode_eq (s : State) (e : Nat) (grp sub : Int) (pay : Option Payload) (hp : s.ph = .idle)
    (he : e < 256) (hg : -2 ^ 31 ≤ grp ∧ grp < 2 ^ 31) (hs : -2 ^ 31 ≤ sub ∧ sub < 2 ^ 31)
    (hpay : pay.all (payloadHasType s.build.payload) = true) :
    ∃ t, exec (.encode e) (s.setMsg { s.msg with grp := BitVec.ofInt 32 grp, sub := BitVec.ofInt 32 sub, pay := pay }) =
        .next t ∧
      pseudoEncode e grp sub pay s =
        if t.status = 0x00 then
          .next (t.setReply (some (.nat t.msg.seq.toNat)),
            .reads [.nat 0, .nat t.plen, .bytes (t.memReadBytes 0 t.plen), .nat t.msg.sid, .nat t.msg.seq.toNat])
        else .next (t.setReply (some (.nat t.status.toNat)), .reads [.nat t.status.toNat]) := by
  obtain ⟨t, ht, htp, hrun⟩ := exists_hostDoAll_writeCmd_status (.encode e)
    (s.setMsg { s.msg with grp := BitVec.ofInt 32 grp, sub := BitVec.ofInt 32 sub, pay := pay }) he hp
  refine ⟨t, ht, ?_⟩
  rw [pseudoEncode, ifHasWord_of_wellFormed _ _ he, Session.start, hostDoAll_loadMessage grp sub pay hp hg hs hpay, hrun,
    List.nil_append, hostDoAll_nil, thenDo_onOk]
  split_ifs with hok
  · rw [hostDoAll_rd_setReply .plen _ _ htp rfl, hostDoAll_nil, thenDo_next, List.singleton_append,
      hostDoAll_readPacket _ _ htp (plen_le_of_exec_encode e _ t ht hok), answered_next]
  · rfl

theorem exists_pseudoDecode_eq (s : State) (d : Nat) (bytes : Bytes) (hp : s.ph = .idle) (hd : d < 256)
    (hb : bytes.length ≤ s.build.bufMax) :
    ∃ t, exec (.decode d) ((s.memWriteBytes 0 bytes).setPlen bytes.length) = .next t ∧
      pseudoDecode d bytes s =
        if t.status = 0x00 then
          .next (t.setReply (some (.payload t.msg.pay)),
            .reads [.nat 0, .nat t.msg.sid, .nat t.msg.seq.toNat, .int t.msg.grp.toInt, .int t.msg.sub.toInt,
              .payload t.msg.pay])
        else .next (t.setReply (some (.nat t.status.toNat)), .reads [.nat t.status.toNat]) := by
  obtain ⟨t, ht, htp, hrun⟩ :=
    exists_hostDoAll_writeCmd_status (.decode d) ((s.memWriteBytes 0 bytes).setPlen bytes.length) hd hp
  refine ⟨t, ht, ?_⟩
  rw [pseudoDecode, ifLoadable_of_le s bytes _ hb, ifHasWord_of_wellFormed _ _ hd, Session.start,
    hostDoAll_load bytes hp hb, hrun, List.nil_append, hostDoAll_nil, thenDo_onOk]
  split_ifs with hok
  · rw [hostDoAll_readMessage _ _ htp, answered_next]
  · rfl

/-- The two constructions are one run: load `KEYIN`, issue the command, read `STATUS`. -/
theorem exists_construct_eq (i : Instr) (s : State) (key : Bytes) (hi : i.WellFormed) (hp : s.ph = .idle)
    (hk : key.length = s.build.keyLen) :
    ∃ t, exec i (s.setKeyin key) = .next t ∧
      answered (ifHasWord i (hostDoAll [.wr .keyin (.bytes key), writeCmd i, .rd .status] (Session.start s))) =
        .next (t.setReply (some (.nat t.status.toNat)), .reads [.nat t.status.toNat]) := by
  obtain ⟨t, ht, -, hrun⟩ := exists_hostDoAll_writeCmd_status i (s.setKeyin key) hi hp
  refine ⟨t, ht, ?_⟩
  have hload : hostWrite .keyin (.bytes key) s = .next (s.setKeyin key) := if_pos hk
  rw [ifHasWord_of_wellFormed _ _ hi, Session.start, hostDoAll_wr .keyin _ hp hload, hrun, List.nil_append,
    hostDoAll_nil, answered_next]

/-- A pseudo-command whose command has no word answers the refusal. -/
theorem answered_ifHasWord_of_not_wellFormed (i : Instr) (o : Host.Outcome Session Fault Refusal)
    (h : ¬ i.WellFormed) : answered (ifHasWord i o) = .refused (.hostValueUnfit .cmd) := by
  rw [ifHasWord_of_not_wellFormed i o h]
  rfl

/-! ### The statements -/

/-- Settles O1: the encoding has the command's operation code in its high byte and its slot operand in its low byte. -/
theorem decodeOfEncodeGivesTheCommandBack : Obligations.DecodeOfEncodeGivesTheCommandBack := decode_encode

/-- Settles O2: the two fields of a word, which the decoded command keeps, determine the word. -/
theorem encodeOfDecodedWordGivesTheWordBack : Obligations.EncodeOfDecodedWordGivesTheWordBack := by
  intro w i h
  have hwf : i.WellFormed := wellFormed_of_decode w i h
  obtain ⟨hop, hslot⟩ := (decode_eq_ok_iff w i).1 h
  refine ⟨hwf, BitVec.eq_of_toNat_eq ?_⟩
  rw [encode_toNat i ((wellFormed_iff_slot_lt i).1 hwf)]
  omega

/-- Settles O4: an illegal word is rejected by the decoder or by `TST.IDRST`, and every other word has an operation code
of R78 with a slot field it allows. -/
theorem illegalWordsCompleteWithIllegalCmd : Obligations.IllegalWordsCompleteWithIllegalCmd := by
  intro s w rest hp hs
  refine ⟨fun h => ?_, fun h => ?_⟩
  · rw [step_of_idle s _ rest hs hp, hostAct, hostWrite_cmd, issue_of_illegalWord w (s.setHost rest) h]
    rfl
  · obtain ⟨i, hi⟩ := exists_decode_of_not_illegalWord s.build w h
    exact ⟨i, wellFormed_of_decode w i hi, hi⟩

/-- Settles O53: each pseudo-command's loads, command and reads, one after another. -/
theorem pseudoCommandsRunTheirExpansions : Obligations.PseudoCommandsRunTheirExpansions :=
  ⟨exists_pseudoCrc16_eq,
    fun s e grp sub pay hp he hglo hghi hslo hshi hpay =>
      exists_pseudoEncode_eq s e grp sub pay hp he ⟨hglo, hghi⟩ ⟨hslo, hshi⟩ hpay,
    exists_pseudoDecode_eq,
    fun s k key hp hk hkey => ⟨exists_construct_eq (.encNew k) s key hk hp hkey,
      exists_construct_eq (.decNew k) s key hk hp hkey⟩,
    fun s bytes h => ⟨fun _ _ => ifLoadable_of_lt s bytes _ h, fun _ => ifLoadable_of_lt s bytes _ h⟩⟩

/-- Settles O3: each word is the encoding of its command. -/
theorem tableWordsDecodeToTheirCommands : Obligations.TableWordsDecodeToTheirCommands :=
  ⟨decode_encode .crc16 (by decide), decode_encode (.encNew 5) (by decide), decode_encode (.encode 255) (by decide),
    decode_encode (.decNew 0) (by decide), decode_encode (.decode 129) (by decide),
    decode_encode .tstIdrst (by decide)⟩

/-- Settles O54: no slot command with this index is well formed, and only a decode looks at its bytes first. -/
theorem pseudoCommandsRefuseSlotsWithoutAWord : Obligations.PseudoCommandsRefuseSlotsWithoutAWord := by
  intro s k hk
  have hslot : ¬ k < 256 := Nat.not_lt.mpr hk
  refine ⟨fun _ _ _ => answered_ifHasWord_of_not_wellFormed (.encode k) _ hslot, fun bytes => ?_,
    fun _ => ⟨answered_ifHasWord_of_not_wellFormed (.encNew k) _ hslot,
      answered_ifHasWord_of_not_wellFormed (.decNew k) _ hslot⟩⟩
  rw [pseudoDecode, ifLoadable, answered_ifHasWord_of_not_wellFormed (.decode k) _ hslot]

end Sys2Proof.Machine
end

section
/-! PROOFS. The family 40_crc16.md: how a CRC value stands in the packet buffer, and the command `CRC16`. -/

namespace Sys2Proof.Machine

/-! ### A number stored in the buffer and read back (R8, R98) -/

/-- A number that fits the bytes it was written to reads back whole. -/
theorem State.memRead_memWrite_self (s : State) (a n v : Nat) (h : v < 2 ^ (8 * n)) :
    (s.memWrite a n v).memRead a n = v := by
  have hbytes := s.memReadBytes_memWriteBytes_self a (be n v)
  rw [be_length] at hbytes
  rw [State.memRead, State.memWrite, hbytes, ube_be n v h]

/-- Byte `i` of a number just written stands `i` offsets further on. -/
theorem State.pktByte_memWrite_add (s : State) (a n v i : Nat) (h : i < n) :
    (s.memWrite a n v).pktByte (a + i) = BitVec.ofNat 8 (v >>> (8 * (n - 1 - i))) := by
  rw [State.memWrite, State.pktByte_memWriteBytes, dif_pos (by simpa using h), be_getElem, Nat.add_sub_cancel_left]

/-! ### The two exits of `CRC16` (R95) -/

/-- A completion enters no phase. -/
@[simp] theorem Run.phases_complete (r : Run) (c : Completion) : (r.complete c).phases = r.phases := rfl

theorem exec_crc16_ok (s : State) (h : s.off.toNat + s.clen.toNat ≤ s.plen) :
    exec .crc16 s = .next ((s.setCrc (s.crcOver s.off.toNat s.clen.toNat)).finish .ok) :=
  (Effect.crc16Ok h).exec_eq

theorem exec_crc16_range (s : State) (h : s.plen < s.off.toNat + s.clen.toNat) :
    exec .crc16 s = .next (s.finish .range) :=
  (Effect.crc16Range h).exec_eq

theorem runCrc16_phases_ok (s : State) (h : s.off.toNat + s.clen.toNat ≤ s.plen) :
    (runCrc16 s).phases = [.c0, .c1] := by
  rw [runCrc16_ok s h]
  simp [crc16C1]

theorem runCrc16_phases_range (s : State) (h : s.plen < s.off.toNat + s.clen.toNat) :
    (runCrc16 s).phases = [.c0] := by
  rw [runCrc16_range s h]
  simp

/-- Run again, `CRC16` takes the same exit and computes the same value: it writes neither the range's bounds nor the
buffer. -/
theorem exec_crc16_idempotent (s t : State) (h : exec .crc16 s = .next t) : exec .crc16 t = .next t := by
  rcases le_or_gt (s.off.toNat + s.clen.toNat) s.plen with hin | hout
  · rw [exec_crc16_ok s hin] at h
    cases h
    exact exec_crc16_ok _ hin
  · rw [exec_crc16_range s hout] at h
    cases h
    exact exec_crc16_range _ hout

/-- The CRC of the worked example: the nine digits in the default variant (R95, R97). -/
theorem crc16_arc_digits :
    crc16 Crcp.arc [0x31, 0x32, 0x33, 0x34, 0x35, 0x36, 0x37, 0x38, 0x39] = 0xBB3D := by
  decide +kernel

/-! ### The statements -/

/-- Settles O12: a CRC fits the two bytes it is written to, so it reads back whole, and equal numbers are equal CRCs. -/
theorem checksumsAreStoredInTwoBytes : Obligations.ChecksumsAreStoredInTwoBytes := by
  intro s a c d
  have hread : (s.memWrite a 2 c.toNat).memRead a 2 = c.toNat := s.memRead_memWrite_self a 2 c.toNat c.isLt
  refine ⟨s.pktByte_memWrite_add a 2 c.toNat 0 (by decide), s.pktByte_memWrite_add a 2 c.toNat 1 (by decide),
    hread, ?_⟩
  rw [hread, BitVec.toNat_inj]

/-- Settles O15: the two exits, split by the range test; a word with another slot is on the list of illegal words. -/
theorem crc16ComputesTheRangeChecksum : Obligations.Crc16ComputesTheRangeChecksum := by
  refine ⟨fun s h => ⟨exec_crc16_ok s h, runCrc16_phases_ok s h⟩,
    fun s h => ⟨exec_crc16_range s h, runCrc16_phases_range s h⟩, exec_crc16_idempotent, by decide, ?_, ?_⟩
  · intro s w rest hp hs hop hslot
    have hillegal : IllegalWord s.build w := .inr (.inl ⟨.inl hop, hslot⟩)
    exact (illegalWordsCompleteWithIllegalCmd s w rest hp hs).1 hillegal
  · intro s hcrcp hplen hoff hclen hbytes
    have hvalue : s.crcOver s.off.toNat s.clen.toNat = 0xBB3D := by
      rw [State.crcOver, hcrcp, hoff, hclen]
      exact (congrArg _ hbytes).trans crc16_arc_digits
    rw [exec_crc16_ok s (by simp [hplen, hoff, hclen]), hvalue]
    rfl

end Sys2Proof.Machine
end

section
/-! PROOFS. The family 42_encoder.md: the construction of an encoder, and what each outcome of `ENCODE` leaves. -/

namespace Sys2Proof.Machine

/-! ### `ENC.NEW` (R121) -/

/-- A command with one phase goes through that phase, whatever its outcome (R24). -/
theorem phasesVisited_of_phasesOf_singleton (i : Instr) (s : State) (p : Phase) (h : phasesOf i = [p]) :
    phasesVisited i s = [p] := by
  obtain ⟨qs, hne, hprefix, hphases, -⟩ := runOf_goesThrough i s
  rw [h, List.prefix_cons_iff] at hprefix
  obtain rfl | ⟨ps, rfl, hps⟩ := hprefix
  · exact absurd rfl hne
  · rw [List.prefix_nil.1 hps] at hphases
    exact hphases

/-- The word of `ENC.NEW e` (R78). -/
theorem encode_encNew_toNat (e : Nat) (h : e < 256) : (encode (.encNew e)).toNat = 0x0200 + e := by
  rw [encode_toNat (.encNew e) h]
  simp [Instr.op, Instr.slot]

/-- An `ENC.NEW` that answers `OK` has constructed the encoder. -/
theorem eq_constructEncoder_of_exec_encNew (e : Nat) (s u : State) (hu : exec (.encNew e) s = .next u)
    (hok : u.status = 0x00) : u = (s.constructEncoder e).finish .ok := by
  obtain ⟨c, v, he⟩ := exists_effect (.encNew e) s
  rw [he.exec_eq] at hu
  cases hu
  obtain rfl : c = .ok := (statusCode_eq_zero_iff c).1 hok
  cases he with
  | encNewOk => rfl

/-- The slot just constructed: the identity taken, no sequence number used, the staged key (R121). -/
theorem State.encSlot_constructEncoder_self (s : State) (e : Nat) (h : e < s.enc.length) :
    (s.constructEncoder e).encSlot e = { valid := true, sid := s.idctr, seq := 0, key := s.keyin } :=
  s.encSlot_setEncSlot_self e _ h

/-! ### `ENCODE`: the assignment (R123) -/

/-- The state `assigned` of the statements is what the assignment makes. -/
theorem State.assignSequence_eq_assigned (s : State) (e : Nat) : s.assignSequence e = s.assigned e := rfl

/-- The assignment moves the counter of slot `e` on. -/
theorem State.encSlot_assignSequence_self (s : State) (e : Nat) (h : e < s.enc.length) :
    (s.assignSequence e).encSlot e = { s.encSlot e with seq := (s.encSlot e).seq + 1 } :=
  State.encSlot_setEncSlot_self _ e _ h

/-- The assignment leaves every other slot as it was. -/
theorem State.encSlot_assignSequence_of_ne (s : State) (e f : Nat) (h : e ≠ f) :
    (s.assignSequence e).encSlot f = s.encSlot f :=
  State.encSlot_setEncSlot_of_ne _ e f _ h

/-- What follows the assignment in an admitted `ENCODE` writes no message register and no slot, on any exit. -/
theorem Effect.assigns {s u : State} {e : Nat} {c : Completion} (he : Effect s (.encode e) c u) (hr : s.EncReady e)
    (hq : (s.encSlot e).seq ≠ 2 ^ 64) : u.msg = (s.assignSequence e).msg ∧ u.enc = (s.assignSequence e).enc := by
  cases he with
  | encodeBadSlot _ h => exact absurd hr h
  | encodeExhausted _ _ h => exact absurd h hq
  | encodeSerFails | encodeEncryptFails | encodeTooLong | encodeOk => exact ⟨rfl, rfl⟩

/-- Every admitted `ENCODE` hands out the slot's identity and number and counts it, whether it then succeeds or
fails. -/
theorem exec_encode_assigns (e : Nat) (s : State) (hr : s.EncReady e) (hseq : (s.encSlot e).seq < 2 ^ 64) :
    ∃ t, exec (.encode e) s = .next t ∧ t.msg.sid = (s.encSlot e).sid ∧ t.msg.seq.toNat = (s.encSlot e).seq ∧
      t.encSlot e = { s.encSlot e with seq := (s.encSlot e).seq + 1 } ∧
      ∀ f, f ≠ e → t.encSlot f = s.encSlot f := by
  obtain ⟨c, u, he⟩ := exists_effect_encode e s
  obtain ⟨hmsg, henc⟩ := he.assigns hr hseq.ne
  have hslot (f : Nat) : (u.finish c).encSlot f = (s.assignSequence e).encSlot f := State.encSlot_congr henc f
  refine ⟨u.finish c, he.exec_eq, congrArg Msg.sid hmsg, ?_, ?_, fun f hf => ?_⟩
  · calc u.msg.seq.toNat = (BitVec.ofNat 64 (s.encSlot e).seq).toNat := by rw [hmsg, State.assignSequence_msg]
      _ = (s.encSlot e).seq := by rw [BitVec.toNat_ofNat, Nat.mod_eq_of_lt hseq]
  · rw [hslot, s.encSlot_assignSequence_self e (s.lt_of_encSlot_valid e hr.2)]
  · rw [hslot, s.encSlot_assignSequence_of_ne e f hf.symm]

/-! ### The statements -/

/-- Settles O17: the three exits of `ENC.NEW`, its one phase and its word. -/
theorem encNewConstructsAnEncoder : Obligations.EncNewConstructsAnEncoder :=
  ⟨fun e _ he hid => (Effect.encNewOk e he hid).exec_eq,
    fun e _ he => (Effect.encNewBadSlot e he).exec_eq,
    fun e _ he hid => (Effect.encNewExhausted e he hid).exec_eq,
    fun e s => phasesVisited_of_phasesOf_singleton (.encNew e) s .n0 rfl,
    encode_encNew_toNat⟩

/-- Settles O20: the exit of `ENCODE` with `OK`, and the length of its packet. -/
theorem encodeWritesTheFrame : Obligations.EncodeWritesTheFrame :=
  fun e s plain body hr hq hser henc hfit =>
    ⟨(Effect.encodeOk e hr hq plain body hser henc hfit).exec_eq, s.packetOf_length e body⟩

/-- Settles O22: the six exits of `ENCODE`, the three failures each in the state of the assignment. -/
theorem encodeFailureConsumesASequenceNumber : Obligations.EncodeFailureConsumesASequenceNumber := by
  refine ⟨?serFails, ?encryptFails, ?tooLong, ?badSlot, ?exhausted, ?ok⟩
  case serFails =>
    intro e s hr hq hser
    rw [← s.assignSequence_eq_assigned]
    exact (Effect.encodeSerFails e hr hq hser).exec_eq
  case encryptFails =>
    intro e s plain hr hq hser henc
    rw [← s.assignSequence_eq_assigned]
    exact (Effect.encodeEncryptFails e hr hq plain hser henc).exec_eq
  case tooLong =>
    intro e s plain body hr hq hser henc hfit
    rw [← s.assignSequence_eq_assigned]
    exact (Effect.encodeTooLong e hr hq plain body hser henc hfit).exec_eq
  case badSlot => exact fun e _ h => (Effect.encodeBadSlot e h).exec_eq
  case exhausted => exact fun e _ hr hq => (Effect.encodeExhausted e hr hq).exec_eq
  case ok =>
    intro e s plain body hr hq hser henc hfit
    exact (encodeWritesTheFrame e s plain body hr hq hser henc hfit).1

/-- Settles O23: an admitted `ENCODE` assigns; after a construction it assigns from the slot just constructed. -/
theorem admittedEncodeAssignsIdentityAndSequence : Obligations.AdmittedEncodeAssignsIdentityAndSequence := by
  refine ⟨fun e s hr _ hseq => exec_encode_assigns e s hr hseq, fun e s u he hlen hu hok => ?_⟩
  have hslot : u.encSlot e = { valid := true, sid := s.idctr, seq := 0, key := s.keyin } := by
    rw [eq_constructEncoder_of_exec_encNew e s u hu hok]
    exact s.encSlot_constructEncoder_self e (hlen ▸ he)
  have hbuild : u.build = s.build := by
    rw [eq_constructEncoder_of_exec_encNew e s u hu hok]
    exact s.constructEncoder_build e
  have hready : u.EncReady e := ⟨hbuild ▸ he, by rw [hslot]⟩
  obtain ⟨t, ht, hsid, hseq, henc, -⟩ := exec_encode_assigns e u hready (by simp [hslot])
  rw [hslot] at hsid hseq henc
  exact ⟨t, ht, hsid, BitVec.eq_of_toNat_eq hseq, henc⟩

end Sys2Proof.Machine
end

section
/-! PROOFS. The family 43_decoder.md: the construction of a decoder, and what `DECODE` reads, changes and answers. -/

namespace Sys2Proof.Machine

/-! ### `DEC.NEW` (R141) -/

/-- The word of `DEC.NEW d` (R78). -/
theorem encode_decNew_toNat (d : Nat) (h : d < 256) : (encode (.decNew d)).toNat = 0x0400 + d := by
  rw [encode_toNat (.decNew d) h]
  simp [Instr.op, Instr.slot]

/-! ### The commit (R151) -/

/-- The commit puts the message the statements read off the packet into `MSG`. -/
theorem State.commitMessage_eq_setMsg (s : State) (pay : Payload) : s.commitMessage pay = s.setMsg (s.messageOf pay) :=
  rfl

/-! ### What `DECODE` reads (R153) -/

/-- A packet of at least the minimum length ends at `PLEN`, two bytes behind its body (R146). -/
theorem State.body_end (s : State) (hlen : 25 + s.build.w.bytes ≤ s.plen) :
    23 + s.build.w.bytes + s.bodyLen + 2 = s.plen := by
  rw [State.bodyLen]
  omega

/-- The two states agree in all that R153 lets `DECODE d` depend on: the parameters, `PLEN`, slot `d` and the bytes
below `PLEN`. -/
structure SameDecodeInput (d : Nat) (s t : State) : Prop where
  build : s.build = t.build
  plen : s.plen = t.plen
  decSlot : s.decSlot d = t.decSlot d
  pktByte : ∀ a < s.plen, s.pktByte a = t.pktByte a

namespace SameDecodeInput

variable {d : Nat} {s t : State}

theorem symm (h : SameDecodeInput d s t) : SameDecodeInput d t s :=
  ⟨h.build.symm, h.plen.symm, h.decSlot.symm, fun a ha => (h.pktByte a (h.plen ▸ ha)).symm⟩

/-- A range below `PLEN` reads the same. -/
theorem memReadBytes_eq (h : SameDecodeInput d s t) (a n : Nat) (hn : a + n ≤ s.plen) :
    s.memReadBytes a n = t.memReadBytes a n := by
  refine List.ext_getElem (by simp) fun i hi _ => ?_
  rw [State.memReadBytes_length] at hi
  rw [State.memReadBytes_getElem, State.memReadBytes_getElem, h.pktByte (a + i) (by omega)]

theorem memRead_eq (h : SameDecodeInput d s t) (a n : Nat) (hn : a + n ≤ s.plen) : s.memRead a n = t.memRead a n := by
  rw [State.memRead, State.memRead, h.memReadBytes_eq a n hn]

theorem crcOver_eq (h : SameDecodeInput d s t) (a n : Nat) (hn : a + n ≤ s.plen) : s.crcOver a n = t.crcOver a n := by
  rw [State.crcOver, State.crcOver, h.memReadBytes_eq a n hn, h.build]

theorem bodyLen_eq (h : SameDecodeInput d s t) : s.bodyLen = t.bodyLen := by
  rw [State.bodyLen, State.bodyLen, h.build, h.plen]

theorem bodyBytes_eq (h : SameDecodeInput d s t) (hlen : 25 + s.build.w.bytes ≤ s.plen) : s.bodyBytes = t.bodyBytes := by
  have hend := s.body_end hlen
  rw [State.bodyBytes, State.bodyBytes, h.memReadBytes_eq _ _ (by omega), h.bodyLen_eq, h.build]

theorem messageOf_eq (h : SameDecodeInput d s t) (hlen : 25 + s.build.w.bytes ≤ s.plen) (pay : Payload) :
    s.messageOf pay = t.messageOf pay := by
  rw [State.messageOf, State.messageOf, h.memRead_eq _ _ (by omega), h.memRead_eq _ _ (by omega),
    h.memRead_eq _ _ (by omega), h.memRead_eq _ _ (by omega), h.build]

theorem decReady (h : SameDecodeInput d s t) (hr : s.DecReady d) : t.DecReady d := by
  rwa [State.DecReady, h.build, h.decSlot] at hr

/-- The tests `D1` to `D5` read bytes below `PLEN` only. -/
theorem frameIntact (h : SameDecodeInput d s t) (hf : s.FrameIntact) : t.FrameIntact := by
  obtain ⟨hlen, hmagic, hcheck1, htotal, hcheck2⟩ := hf
  have hend := s.body_end hlen
  rw [h.pktByte 0 (by omega)] at hmagic
  rw [h.crcOver_eq _ _ (by omega), h.memRead_eq _ _ (by omega), h.build] at hcheck1
  rw [h.memRead_eq _ _ (by omega), h.build, h.plen] at htotal
  rw [h.crcOver_eq _ _ (by omega), h.memRead_eq _ _ (by omega), h.bodyLen_eq, h.build] at hcheck2
  rw [h.build, h.plen] at hlen
  exact ⟨hlen, hmagic, hcheck1, htotal, hcheck2⟩

theorem portDecrypt_eq (h : SameDecodeInput d s t) (hf : s.FrameIntact) :
    portDecrypt s.build (s.decSlot d).key s.bodyBytes = portDecrypt t.build (t.decSlot d).key t.bodyBytes := by
  rw [h.bodyBytes_eq hf.1, h.decSlot, h.build]

/-- A packet with one of the seven causes of `InvalidPacket` in one state has one in the other: were it valid there, it
would be valid here. -/
theorem packetInvalid (h : SameDecodeInput d s t) (hinv : s.PacketInvalid d) : t.PacketInvalid d := by
  by_contra hvalid
  obtain ⟨hf, plain, pay, hdec, hdes⟩ := (t.not_packetInvalid_iff d).1 hvalid
  rw [h.symm.portDecrypt_eq hf] at hdec
  rw [← h.build] at hdes
  exact (s.not_packetInvalid_iff d).2 ⟨h.symm.frameIntact hf, plain, pay, hdec, hdes⟩ hinv

end SameDecodeInput

/-- From another state with the same input `DECODE d` takes the same exit: with `OK` it puts the same message into
`MSG`, and with any other code it has changed nothing. -/
theorem Effect.decode_of_sameInput {d : Nat} {s t u : State} {c : Completion} (he : Effect s (.decode d) c u)
    (h : SameDecodeInput d s t) :
    (c = .ok ∧ Effect t (.decode d) .ok (t.setMsg u.msg)) ∨ (c ≠ .ok ∧ u = s ∧ Effect t (.decode d) c t) := by
  cases he with
  | decodeBadSlot _ hr => exact .inr ⟨nofun, rfl, .decodeBadSlot d fun ht => hr (h.symm.decReady ht)⟩
  | decodeRejected _ hr hinv => exact .inr ⟨nofun, rfl, .decodeRejected d (h.decReady hr) (h.packetInvalid hinv)⟩
  | decodeOk _ hr hf plain pay hdec hdes =>
    have ht := Effect.decodeOk d (h.decReady hr) (h.frameIntact hf) plain pay (h.portDecrypt_eq hf ▸ hdec)
      (h.build ▸ hdes)
    rw [State.commitMessage_eq_setMsg, ← h.messageOf_eq hf.1] at ht
    exact .inl ⟨rfl, ht⟩

/-- A `DECODE` writes none of what it reads. -/
theorem Effect.sameDecodeInput_finish {d : Nat} {s u : State} {c : Completion} (he : Effect s (.decode d) c u) :
    SameDecodeInput d s (u.finish c) := by
  cases he with
  | decodeBadSlot | decodeRejected | decodeOk => exact ⟨rfl, rfl, rfl, fun _ _ => rfl⟩

/-- A second `DECODE` of the same buffer gives the same result (R153). -/
theorem exec_decode_idempotent (d : Nat) (s s' : State) (h : exec (.decode d) s = .next s') :
    exec (.decode d) s' = .next s' := by
  obtain ⟨c, u, he⟩ := exists_effect_decode d s
  rw [he.exec_eq] at h
  cases h
  rcases he.decode_of_sameInput he.sameDecodeInput_finish with ⟨rfl, hagain⟩ | ⟨-, rfl, hagain⟩
  · exact hagain.exec_eq
  · exact hagain.exec_eq

/-! ### The statements -/

/-- Settles O30: the exit of `DECODE` with `OK` commits, and no other exit writes `MSG`. -/
theorem decodeCommitsAValidPacket : Obligations.DecodeCommitsAValidPacket := by
  refine ⟨fun d s plain pay hr hf hdec hdes => ?_, fun d s t ht hmsg => ?_⟩
  · rw [(Effect.decodeOk d hr hf plain pay hdec hdes).exec_eq, State.commitMessage_eq_setMsg]
    rfl
  · obtain ⟨c, u, he⟩ := exists_effect_decode d s
    rw [he.exec_eq] at ht
    cases ht
    cases he with
    | decodeBadSlot | decodeRejected => exact absurd rfl hmsg
    | decodeOk _ hr hf plain pay hdec hdes => exact ⟨hr, hf, plain, pay, hdec, hdes⟩

/-- Settles O34: states with the same input take the same exit, and a `DECODE` leaves its own input as it was. -/
theorem decodeDependsOnlyOnTheBuffer : Obligations.DecodeDependsOnlyOnTheBuffer := by
  refine ⟨fun d s t hbuild hplen hslot hbytes => ?_, exec_decode_idempotent⟩
  have hinput : SameDecodeInput d s t := ⟨hbuild, hplen, hslot, hbytes⟩
  obtain ⟨c, u, he⟩ := exists_effect_decode d s
  rcases he.decode_of_sameInput hinput with ⟨rfl, ht⟩ | ⟨hc, rfl, ht⟩
  · exact ⟨_, _, he.exec_eq, ht.exec_eq, rfl, fun _ => rfl, fun hne => absurd rfl hne⟩
  · exact ⟨_, _, he.exec_eq, ht.exec_eq, rfl, fun hok => absurd ((statusCode_eq_zero_iff c).1 hok) hc,
      fun _ => ⟨rfl, rfl⟩⟩

/-- Settles O29: the two exits of `DEC.NEW`, its one phase and its word. -/
theorem decNewConstructsADecoder : Obligations.DecNewConstructsADecoder :=
  ⟨fun d _ hd => (Effect.decNewOk d hd).exec_eq,
    fun d _ hd => (Effect.decNewBadSlot d hd).exec_eq,
    fun d s => phasesVisited_of_phasesOf_singleton (.decNew d) s .n0 rfl,
    encode_decNew_toNat⟩

/-- Settles O32: the admission test of `DECODE` fails before any other. -/
theorem decodeOfAnUnconstructedSlotIsBadSlot : Obligations.DecodeOfAnUnconstructedSlotIsBadSlot :=
  fun d _ h => (Effect.decodeBadSlot d h).exec_eq

end Sys2Proof.Machine
end

section
/-! PROOFS. The family 44_test_support.md: the command `TST.IDRST`. -/

namespace Sys2Proof.Machine

/-- A word with the operation code of `TST.IDRST` and a slot other than 0 is on the list of R80 in every build. -/
theorem illegalWord_of_tstIdrst_slot (b : Build) (w : BitVec 16) (hop : w.toNat / 256 = 15)
    (hslot : w.toNat % 256 ≠ 0) : IllegalWord b w :=
  .inr (.inl ⟨.inr hop, hslot⟩)

/-! ### The statements -/

/-- Settles O38: the two exits of `TST.IDRST`, split by the build; its one phase and its word; a word with another slot
is on the list of illegal words. -/
theorem tstIdrstClearsTheIdentityCounter : Obligations.TstIdrstClearsTheIdentityCounter := by
  refine ⟨fun s htest => (Effect.tstIdrstOk htest).exec_eq,
    fun s hprod => (Effect.tstIdrstIllegal hprod).exec_eq,
    fun s => phasesVisited_of_phasesOf_singleton .tstIdrst s .n0 rfl, by decide, ?otherSlot⟩
  case otherSlot =>
    intro s w rest hp hs hop hslot
    have hillegal : IllegalWord s.build w := illegalWord_of_tstIdrst_slot s.build w hop hslot
    exact (illegalWordsCompleteWithIllegalCmd s w rest hp hs).1 hillegal

end Sys2Proof.Machine
end

section
/-! PROOFS. The family 60_exceptions.md: which command raises which code and when, and how the two counters move. -/

namespace Sys2Proof.Machine

section

variable {s t u : State} {i : Instr} {c : Completion}

/-! ### The codes of a command (R170, R193) -/

/-- No two completions share a code (R170). -/
theorem statusCode_injective : Function.Injective statusCode := by
  intro c d h
  cases c <;> cases d <;> cases h <;> rfl

theorem status_finish_eq_iff (u : State) (c d : Completion) : (u.finish c).status = statusCode d ↔ c = d :=
  statusCode_injective.eq_iff

/-- A command completes with one of its own codes. -/
theorem Effect.mem_codesOf (he : Effect s i c u) : c ∈ codesOf i := by
  cases he <;> simp [codesOf]

/-! ### `RANGE`, `BAD_SLOT` and `INVALID_PACKET`: where each is raised (R171, R174, R176) -/

theorem Effect.range_iff (he : Effect s .crc16 c u) : c = .range ↔ s.plen < s.off.toNat + s.clen.toNat := by
  cases he with
  | crc16Range h => exact iff_of_true rfl h
  | crc16Ok h => exact iff_of_false nofun h.not_gt

/-- The slot a command names is missing or, where the command runs what was constructed there, unconstructed (R176). -/
def State.NoInstanceFor (s : State) : Instr → Prop
  | .encNew e => s.build.nEnc ≤ e
  | .encode e => ¬ s.EncReady e
  | .decNew d => s.build.nDec ≤ d
  | .decode d => ¬ s.DecReady d
  | .crc16 => False
  | .tstIdrst => False

theorem Effect.badSlot_iff (he : Effect s i c u) : c = .badSlot ↔ s.NoInstanceFor i := by
  cases he with
  | encNewBadSlot _ h | encodeBadSlot _ h | decNewBadSlot _ h | decodeBadSlot _ h => exact iff_of_true rfl h
  | encNewExhausted _ h | encNewOk _ h | decNewOk _ h => exact iff_of_false nofun h.not_ge
  | encodeExhausted _ h | encodeSerFails _ h | encodeEncryptFails _ h | encodeTooLong _ h | encodeOk _ h
  | decodeRejected _ h | decodeOk _ h => exact iff_of_false nofun (not_not_intro h)
  | crc16Range | crc16Ok | tstIdrstIllegal | tstIdrstOk => exact iff_of_false nofun id

/-- The code in `STATUS` is `BAD_SLOT` exactly where the slot is missing or unconstructed. -/
theorem exists_exec_badSlot_iff (i : Instr) (s : State) :
    ∃ t, exec i s = .next t ∧ (t.status = 0x11 ↔ s.NoInstanceFor i) := by
  obtain ⟨c, u, he⟩ := exists_effect i s
  exact ⟨u.finish c, he.exec_eq, (status_finish_eq_iff u c .badSlot).trans he.badSlot_iff⟩

/-- Only a `DECODE` on a constructed decoder is rejected, and only for one of the seven causes (R171). -/
theorem Effect.packetInvalid_of_rejected (he : Effect s i .invalidPacket u) :
    ∃ d, i = .decode d ∧ s.DecReady d ∧ s.PacketInvalid d := by
  cases he with
  | decodeRejected d hr hinv => exact ⟨d, rfl, hr, hinv⟩

/-! ### The two counters under a command (R186, R190) -/

/-- Every move of `IDCTR`: none, one up by a construction, or back to 0 by `TST.IDRST`. -/
theorem Effect.idctr_cases (he : Effect s i c u) :
    u.idctr = s.idctr ∨
      (∃ e, i = .encNew e ∧ c = .ok ∧ s.idctr ≠ 2 ^ (8 * s.build.w.bytes) ∧ u.idctr = s.idctr + 1) ∨
      (i = .tstIdrst ∧ s.build.testEn = true ∧ u.idctr = 0) := by
  by_cases hc : c = .ok
  case neg =>
    obtain rfl | ⟨e, -, -, -, rfl⟩ := he.of_ne_ok hc
    · exact .inl rfl
    · exact .inl rfl
  subst hc
  cases he with
  | encNewOk e _ hid => exact .inr (.inl ⟨e, rfl, rfl, hid, rfl⟩)
  | tstIdrstOk htest => exact .inr (.inr ⟨rfl, htest, rfl⟩)
  | crc16Ok | encodeOk | decNewOk | decodeOk => exact .inl rfl

/-- Every move of the encoder slots: none, the assignment of an admitted `ENCODE`, or a construction. -/
theorem Effect.enc_cases (he : Effect s i c u) :
    u.enc = s.enc ∨
      (∃ e, i = .encode e ∧ s.EncReady e ∧ (s.encSlot e).seq ≠ 2 ^ 64 ∧ u.enc = (s.assignSequence e).enc) ∨
      (∃ e, i = .encNew e ∧ c = .ok ∧ u.enc = (s.constructEncoder e).enc) := by
  by_cases hc : c = .ok
  case neg =>
    obtain rfl | ⟨e, hi, hr, hq, rfl⟩ := he.of_ne_ok hc
    · exact .inl rfl
    · exact .inr (.inl ⟨e, hi, hr, hq, rfl⟩)
  subst hc
  cases he with
  | encodeOk e hr hq => exact .inr (.inl ⟨e, rfl, hr, hq, rfl⟩)
  | encNewOk e => exact .inr (.inr ⟨e, rfl, rfl, rfl⟩)
  | crc16Ok | decNewOk | decodeOk | tstIdrstOk => exact .inl rfl

/-- The construction leaves every other slot as it was. -/
theorem State.encSlot_constructEncoder_of_ne (s : State) (e f : Nat) (h : e ≠ f) :
    (s.constructEncoder e).encSlot f = s.encSlot f :=
  s.encSlot_setEncSlot_of_ne e f _ h

/-- Every move of one slot: only a command that names the slot changes it. -/
theorem Effect.encSlot_cases (he : Effect s i c u) (e : Nat) :
    u.encSlot e = s.encSlot e ∨
      (i = .encode e ∧ s.EncReady e ∧ (s.encSlot e).seq ≠ 2 ^ 64 ∧
        u.encSlot e = { s.encSlot e with seq := (s.encSlot e).seq + 1 }) ∨
      (i = .encNew e ∧ c = .ok ∧ u.encSlot e = (s.constructEncoder e).encSlot e) := by
  obtain henc | ⟨f, hi, hr, hq, henc⟩ | ⟨f, hi, hok, henc⟩ := he.enc_cases
  · exact .inl (State.encSlot_congr henc e)
  · rw [State.encSlot_congr henc e]
    by_cases hf : f = e
    · subst hf
      exact .inr (.inl ⟨hi, hr, hq, s.encSlot_assignSequence_self f (s.lt_of_encSlot_valid f hr.2)⟩)
    · exact .inl (s.encSlot_assignSequence_of_ne f e hf)
  · rw [State.encSlot_congr henc e]
    by_cases hf : f = e
    · subst hf
      exact .inr (.inr ⟨hi, hok, rfl⟩)
    · exact .inl (s.encSlot_constructEncoder_of_ne f e hf)

/-! ### The two counters under a step (R177, R178) -/

/-- The two states agree in the parameters, the identity counter and the encoder slots. -/
structure SameCounters (s t : State) : Prop where
  build : t.build = s.build
  idctr : t.idctr = s.idctr
  enc : t.enc = s.enc

/-- The number of a word that decodes (R77). -/
theorem toNat_of_decode (w : BitVec 16) (h : decode w = .ok i) : w.toNat = i.op.toNat * 256 + i.slot := by
  obtain ⟨hop, hslot⟩ := (decode_eq_ok_iff w i).1 h
  omega

/-- A word either runs the command it encodes or completes with `ILLEGAL_CMD`, which changes no counter. -/
theorem issue_cases (w : BitVec 16) (h : issue w s = .next t) :
    SameCounters s t ∨ ∃ i : Instr, w.toNat = i.op.toNat * 256 + i.slot ∧ exec i s = .next t := by
  cases hw : decode w with
  | error e =>
    rw [issue_of_error w e s hw] at h
    cases h
    exact .inl ⟨rfl, rfl, rfl⟩
  | ok i =>
    rw [issue_of_ok w i s hw] at h
    exact .inr ⟨i, toNat_of_decode w hw, h⟩

/-- A register write changes no counter, but for a command word. -/
theorem hostWrite_cases (r : HostReg) (v : HostVal) (h : hostWrite r v s = .next t) :
    SameCounters s t ∨ ∃ w : BitVec 16, r = .cmd ∧ v = .nat w.toNat ∧ issue w s = .next t := by
  unfold hostWrite at h
  split at h
  case h_12 n =>
    obtain ⟨hn, hw⟩ := next_of_guarded h nofun
    exact .inr ⟨BitVec.ofNat 16 n, rfl, by rw [BitVec.toNat_ofNat, Nat.mod_eq_of_lt hn], hw⟩
  case h_3 | h_11 | h_13 => cases h
  all_goals
    obtain ⟨-, ⟨⟩⟩ := next_of_guarded h nofun
    exact .inl ⟨rfl, rfl, rfl⟩

/-- A host action changes no counter, but for a reset and a command word. -/
theorem hostAct_cases (a : HostAct) (h : hostAct a s = .next t) :
    SameCounters s t ∨ a = .reset ∨
      ∃ i : Instr, a = .wr .cmd (.nat (i.op.toNat * 256 + i.slot)) ∧ exec i s = .next t := by
  cases a with
  | wr r v =>
    obtain hsame | ⟨w, rfl, rfl, hw⟩ := hostWrite_cases r v h
    · exact .inl hsame
    · obtain hsame | ⟨i, hi, hexec⟩ := issue_cases w hw
      · exact .inl hsame
      · exact .inr (.inr ⟨i, by rw [hi], hexec⟩)
  | rd r =>
    obtain ⟨v, rfl⟩ := hostRead_next r h
    exact .inl ⟨rfl, rfl, rfl⟩
  | wrpkt off b =>
    obtain ⟨-, rfl⟩ := hostWritePkt_next off b h
    exact .inl ⟨rfl, rfl, rfl⟩
  | rdpkt off n =>
    obtain ⟨v, rfl⟩ := hostReadPkt_next off n h
    exact .inl ⟨rfl, rfl, rfl⟩
  | reset => exact .inr (.inl rfl)

/-- A step with a next state, from any state: nothing has happened, or the host's action has. -/
theorem eq_or_hostAct_of_step (h : step s = .next t) :
    t = s ∨ ∃ a rest, s.host = a :: rest ∧ hostAct a (s.setHost rest) = .next t := by
  cases hs : s.host with
  | nil =>
    rw [step_of_nil s hs] at h
    cases h
    exact .inl rfl
  | cons a rest =>
    simp only [step, stepHost, hs] at h
    obtain ⟨-, hact⟩ := next_of_guarded h nofun
    exact .inr ⟨a, rest, rfl, hact⟩

/-- Only a reset or a command moves a counter. -/
theorem step_cases (h : step s = .next t) :
    SameCounters s t ∨ (∃ rest, s.host = .reset :: rest) ∨
      ∃ (i : Instr) (rest : List HostAct), s.host = .wr .cmd (.nat (i.op.toNat * 256 + i.slot)) :: rest ∧
        exec i (s.setHost rest) = .next t := by
  obtain rfl | ⟨a, rest, hs, hact⟩ := eq_or_hostAct_of_step h
  · exact .inl ⟨rfl, rfl, rfl⟩
  obtain ⟨hbuild, hidctr, henc⟩ | rfl | ⟨i, rfl, hexec⟩ := hostAct_cases a hact
  · exact .inl ⟨hbuild, hidctr, henc⟩
  · exact .inr (.inl ⟨rest, hs⟩)
  · exact .inr (.inr ⟨i, rest, hs, hexec⟩)

/-! ### Exhaustion lasts (R177, R178) -/

/-- With no identity left, every command but `TST.IDRST` leaves it so: a construction, which alone counts, is not
admitted. -/
theorem exec_keeps_id_exhausted (h : s.idctr = 2 ^ (8 * s.build.w.bytes)) (hi : i ≠ .tstIdrst) :
    ∃ t, exec i s = .next t ∧ t.idctr = 2 ^ (8 * t.build.w.bytes) := by
  obtain ⟨c, u, he⟩ := exists_effect i s
  refine ⟨u.finish c, he.exec_eq, ?_⟩
  obtain hid | ⟨e, -, -, hne, -⟩ | ⟨htst, -⟩ := he.idctr_cases
  · calc u.idctr = 2 ^ (8 * s.build.w.bytes) := hid.trans h
      _ = 2 ^ (8 * u.build.w.bytes) := by rw [he.sameHostSide.build]
  · exact absurd h hne
  · exact absurd htst hi

/-- With no sequence number left in slot `e`, every command but its construction leaves the slot as it is: an `ENCODE`,
which alone counts, is not admitted. -/
theorem exec_keeps_seq_exhausted (e : Nat) (h : (s.encSlot e).seq = 2 ^ 64) (hi : i ≠ .encNew e) :
    ∃ t, exec i s = .next t ∧ t.encSlot e = s.encSlot e := by
  obtain ⟨c, u, he⟩ := exists_effect i s
  refine ⟨u.finish c, he.exec_eq, ?_⟩
  obtain hslot | ⟨-, -, hne, -⟩ | ⟨hnew, -⟩ := he.encSlot_cases e
  · exact hslot
  · exact absurd h hne
  · exact absurd hnew hi

end

/-! ### The statements -/

/-- Settles O18: a step changes `IDCTR` only by a reset or by a command, and no command but `TST.IDRST` moves it from
the top. -/
theorem idExhaustionLastsUntilResetOrTestReset : Obligations.IdExhaustionLastsUntilResetOrTestReset := by
  intro s h
  refine ⟨fun e he => (Effect.encNewExhausted e he h).exec_eq, fun i hi => exec_keeps_id_exhausted h hi,
    fun t ht => ?_⟩
  obtain hsame | ⟨rest, hs⟩ | ⟨i, rest, hs, hexec⟩ := step_cases ht
  · exact .inl (by rw [hsame.idctr, hsame.build, h])
  · exact .inr ⟨rest, .inl hs⟩
  · by_cases hi : i = .tstIdrst
    · subst hi
      exact .inr ⟨rest, .inr hs⟩
    · obtain ⟨t', ht', hid⟩ := exec_keeps_id_exhausted (s := s.setHost rest) h hi
      cases hexec.symm.trans ht'
      exact .inl hid

/-- Settles O19: a step changes a slot only by a reset or by a command, and no command but `ENC.NEW e` moves slot `e`
from the top. -/
theorem sequenceExhaustionLastsUntilResetOrConstruction :
    Obligations.SequenceExhaustionLastsUntilResetOrConstruction := by
  intro e s hr h
  refine ⟨(Effect.encodeExhausted e hr h).exec_eq, fun i hi => exec_keeps_seq_exhausted e h hi, fun t ht => ?_⟩
  obtain hsame | ⟨rest, hs⟩ | ⟨i, rest, hs, hexec⟩ := step_cases ht
  · exact .inl (State.encSlot_congr hsame.enc e)
  · exact .inr ⟨rest, .inl hs⟩
  · by_cases hi : i = .encNew e
    · subst hi
      exact .inr ⟨rest, .inr (by simpa [Instr.op, Instr.slot] using hs)⟩
    · obtain ⟨t', ht', hslot⟩ := exec_keeps_seq_exhausted (s := s.setHost rest) e h hi
      cases hexec.symm.trans ht'
      exact .inl hslot

/-- Settles O31: the exit of `DECODE` for a packet with a cause, and no other exit has its code. -/
theorem decodeRejectsForEachOfSevenCauses : Obligations.DecodeRejectsForEachOfSevenCauses := by
  refine ⟨fun d s hr hinv => (Effect.decodeRejected d hr hinv).exec_eq, fun i s => ?_⟩
  obtain ⟨c, u, he⟩ := exists_effect i s
  refine ⟨u.finish c, he.exec_eq, fun hstatus => ?_⟩
  obtain rfl : c = .invalidPacket := (status_finish_eq_iff u c .invalidPacket).1 hstatus
  exact he.packetInvalid_of_rejected

/-- Settles O33: the four slot commands, each with its own condition. -/
theorem badSlotIsRaisedExactlyForMissingInstances : Obligations.BadSlotIsRaisedExactlyForMissingInstances := by
  intro k s
  rw [← s.not_encReady_iff, ← s.not_decReady_iff]
  exact ⟨exists_exec_badSlot_iff (.encNew k) s, exists_exec_badSlot_iff (.encode k) s,
    exists_exec_badSlot_iff (.decNew k) s, exists_exec_badSlot_iff (.decode k) s⟩

/-- Settles O39: every command has an effect, and its completion writes the effect's code. -/
theorem everyCommandCompletesWithOneOfItsCodes : Obligations.EveryCommandCompletesWithOneOfItsCodes := by
  refine ⟨fun i s => ?_, rfl, rfl, rfl, rfl, rfl, rfl, rfl, rfl⟩
  obtain ⟨c, u, he⟩ := exists_effect i s
  exact ⟨u.finish c, he.exec_eq, List.mem_map_of_mem he.mem_codesOf, statusCode_mem c, rfl, rfl⟩

/-- Settles O45: the moves of the identity counter, and those of each slot. -/
theorem countersMoveByOneAndNeverWrap : Obligations.CountersMoveByOneAndNeverWrap := by
  intro i s hlen
  obtain ⟨c, u, he⟩ := exists_effect i s
  refine ⟨u.finish c, he.exec_eq, ?identity, fun e hlt => ?slot⟩
  case identity =>
    obtain hid | ⟨e, hi, rfl, hne, hid⟩ | htst := he.idctr_cases
    · exact .inl hid
    · exact .inr (.inl ⟨e, hi, rfl, hne, hid⟩)
    · exact .inr (.inr htst)
  case slot =>
    obtain hslot | ⟨hi, hr, hq, hslot⟩ | ⟨hi, rfl, hslot⟩ := he.encSlot_cases e
    · exact .inl hslot
    · exact .inr (.inl ⟨hi, hr.2, hq, hslot⟩)
    · exact .inr (.inr ⟨hi, rfl, hslot.trans (s.encSlot_constructEncoder_self e (hlen ▸ hlt))⟩)

/-- Settles O16: the exit with `RANGE` is the one that computes nothing. -/
theorem rangeIsRaisedExactlyOutsideThePacket : Obligations.RangeIsRaisedExactlyOutsideThePacket := by
  intro s
  obtain ⟨c, u, he⟩ := exists_effect .crc16 s
  refine ⟨u.finish c, he.exec_eq, (status_finish_eq_iff u c .range).trans he.range_iff, fun hstatus => ?_⟩
  obtain rfl : c = .range := (status_finish_eq_iff u c .range).1 hstatus
  cases he with
  | crc16Range => rfl

end Sys2Proof.Machine
end

section
/-! PROOFS. The family 70_reset_and_hazards.md: the reset transition. -/

namespace Sys2Proof.Machine

/-- Reset leaves as many encoder slots as the build has, none of them constructed (R32). -/
theorem State.resetOf_enc_invalid (b : Build) (n : Nat) :
    (State.resetOf b n).enc.length = b.nEnc ∧ ∀ x ∈ (State.resetOf b n).enc, x.valid = false :=
  length_and_forall_mem_map_range _ _ (fun x : EncSlot => x.valid = false) fun _ => rfl

/-- Reset leaves as many decoder slots as the build has, none of them constructed (R32). -/
theorem State.resetOf_dec_invalid (b : Build) (n : Nat) :
    (State.resetOf b n).dec.length = b.nDec ∧ ∀ x ∈ (State.resetOf b n).dec, x.valid = false :=
  length_and_forall_mem_map_range _ _ (fun x : DecSlot => x.valid = false) fun _ => rfl

/-- Settles O49: the step is the reset transition in any phase, and its state is `State.resetOf` of the same build but
for the host's side, so each register is read off there and the slots are those of reset. -/
theorem resetPutsEveryStateElementAtItsResetValue : Obligations.ResetPutsEveryStateElementAtItsResetValue := by
  intro s rest hs
  have hstep : step s = .next (s.setHost rest).hardReset := step_of_reset s rest hs
  have henc := State.resetOf_enc_invalid s.build (s.draw + 1)
  have hdec := State.resetOf_dec_invalid s.build (s.draw + 1)
  exact ⟨_, hstep, rfl, rfl, henc, hdec, rfl, rfl, rfl, rfl, rfl, rfl, rfl, rfl⟩

end Sys2Proof.Machine
end

section
/-! PROOFS. The family other, identities and counters: no two live encoders share an identity, and what the two counters
are after a sequence of commands (R128, R129). -/

namespace Sys2Proof.Machine

section

variable {s t u : State} {i : Instr} {c : Completion}

/-! ### Identities stay distinct (R129) -/

/-- Uniqueness speaks of the slots' identities and of `IDCTR` alone, and a higher `IDCTR` does no harm. -/
theorem State.IdsUnique.of_same_ids (h : s.IdsUnique) (hlen : t.enc.length = s.enc.length)
    (hslot : ∀ e, (t.encSlot e).valid = (s.encSlot e).valid ∧ (t.encSlot e).sid = (s.encSlot e).sid)
    (hid : s.idctr ≤ t.idctr) : t.IdsUnique := by
  obtain ⟨hbelow, hdistinct⟩ := h
  have hvalid (e : Nat) : (t.encSlot e).valid = (s.encSlot e).valid := (hslot e).1
  have hsid (e : Nat) : (t.encSlot e).sid = (s.encSlot e).sid := (hslot e).2
  simp only [State.IdsUnique, hlen, hvalid, hsid]
  exact ⟨fun e he hv => (hbelow e he hv).trans_le hid, hdistinct⟩

/-- The assignment of an `ENCODE` counts in its slot and gives out no identity. -/
theorem State.IdsUnique.assignSequence (h : s.IdsUnique) (e : Nat) (hr : s.EncReady e) :
    (s.assignSequence e).IdsUnique := by
  refine h.of_same_ids (by simp [State.assignSequence_enc]) (fun f => ?_) (by simp)
  by_cases hf : e = f
  · subst hf
    rw [s.encSlot_assignSequence_self e (s.lt_of_encSlot_valid e hr.2)]
    exact ⟨rfl, rfl⟩
  · rw [s.encSlot_assignSequence_of_ne e f hf]
    exact ⟨rfl, rfl⟩

/-- A construction gives out `IDCTR`, which lies above every identity in use, and moves it on. -/
theorem State.IdsUnique.constructEncoder (h : s.IdsUnique) (e : Nat) : (s.constructEncoder e).IdsUnique := by
  obtain ⟨hbelow, hdistinct⟩ := h
  have hlen : (s.constructEncoder e).enc.length = s.enc.length := by simp [State.constructEncoder_eq]
  have hself : e < s.enc.length → ((s.constructEncoder e).encSlot e).sid = s.idctr := fun he => by
    rw [s.encSlot_constructEncoder_self e he]
  refine ⟨fun f hf hv => Nat.lt_succ_iff.2 ?below, fun f hf g hg hne hvf hvg => ?distinct⟩
  all_goals rw [hlen] at hf
  case below =>
    by_cases hfe : e = f
    · subst hfe
      exact (hself hf).le
    · rw [s.encSlot_constructEncoder_of_ne e f hfe] at hv ⊢
      exact (hbelow f hf hv).le
  case distinct =>
    rw [hlen] at hg
    by_cases hfe : e = f
    · subst hfe
      rw [s.encSlot_constructEncoder_of_ne e g hne] at hvg ⊢
      exact (hself hf).trans_ne (hbelow g hg hvg).ne'
    · rw [s.encSlot_constructEncoder_of_ne e f hfe] at hvf ⊢
      by_cases hge : e = g
      · subst hge
        exact (hbelow f hf hvf).ne.trans_eq (hself hg).symm
      · rw [s.encSlot_constructEncoder_of_ne e g hge] at hvg ⊢
        exact hdistinct f hf g hg hne hvf hvg

/-- In a production build every effect keeps the identities distinct: `TST.IDRST`, which would give them out again, has
none. -/
theorem Effect.idsUnique (he : Effect s i c u) (htest : s.build.testEn = false) (h : s.IdsUnique) : u.IdsUnique := by
  by_cases hc : c = .ok
  case neg =>
    obtain rfl | ⟨e, -, hr, -, rfl⟩ := he.of_ne_ok hc
    · exact h
    · exact h.assignSequence e hr
  subst hc
  cases he with
  | encNewOk e => exact h.constructEncoder e
  | encodeOk e hr => exact h.assignSequence e hr
  | tstIdrstOk htest' => exact absurd (htest.symm.trans htest') (by decide)
  | crc16Ok | decNewOk | decodeOk => exact h

theorem State.resetOf_idsUnique (b : Build) (n : Nat) : (State.resetOf b n).IdsUnique := by
  have hnone (e : Nat) : ((State.resetOf b n).encSlot e).valid ≠ true := by
    rw [State.resetOf_encSlot_valid]
    decide
  exact ⟨fun e _ hv => absurd hv (hnone e), fun e _ f _ _ hv => absurd hv (hnone e)⟩

/-! ### A sequence of commands (R50) -/

theorem runCommands_cons_of_effect (he : Effect s i c u) (is : List Instr) :
    runCommands (i :: is) s = runCommands is (u.finish c) := by
  simp only [runCommands, he.exec_eq]

/-- No command changes how many encoder slots there are. -/
theorem Effect.enc_length (he : Effect s i c u) : u.enc.length = s.enc.length := by
  obtain henc | ⟨e, -, -, -, henc⟩ | ⟨e, -, -, henc⟩ := he.enc_cases
  · rw [henc]
  · simp [henc, State.assignSequence_enc]
  · simp [henc, State.constructEncoder_eq]

/-- No sequence of commands changes the parameters or how many encoder slots there are. -/
theorem runCommands_keeps_slots (is : List Instr) (s : State) :
    (runCommands is s).build = s.build ∧ (runCommands is s).enc.length = s.enc.length := by
  induction is generalizing s with
  | nil => exact ⟨rfl, rfl⟩
  | cons i is ih =>
    obtain ⟨c, u, he⟩ := exists_effect i s
    obtain ⟨hbuild, hlen⟩ := ih (u.finish c)
    rw [runCommands_cons_of_effect he]
    exact ⟨hbuild.trans he.sameHostSide.build, hlen.trans he.enc_length⟩

/-! ### One command and the counters, as numbers counted (R128, R129) -/

/-- With a number left in the slot, a command other than its construction moves the counter of slot `e` by one where it
is `ENCODE e` and not at all otherwise. -/
theorem Effect.encSlot_eq_add_count (he : Effect s i c u) (e : Nat) (hr : s.EncReady e) (hnew : i ≠ .encNew e)
    (hseq : (s.encSlot e).seq + [i].count (.encode e) ≤ 2 ^ 64) :
    u.encSlot e = { s.encSlot e with seq := (s.encSlot e).seq + [i].count (.encode e) } := by
  by_cases hi : i = .encode e
  · subst hi
    rw [List.count_singleton_self] at hseq ⊢
    obtain ⟨-, henc⟩ := he.assigns hr (Nat.lt_of_succ_le hseq).ne
    rw [State.encSlot_congr henc, s.encSlot_assignSequence_self e (s.lt_of_encSlot_valid e hr.2)]
  · obtain hslot | ⟨hcmd, -⟩ | ⟨hcmd, -⟩ := he.encSlot_cases e
    · simpa [List.count_singleton, hi] using hslot
    · exact absurd hcmd hi
    · exact absurd hcmd hnew

/-- With an identity left, a command other than `TST.IDRST` moves `IDCTR` by one where it constructs in an existing slot
and not at all otherwise. -/
theorem Effect.idctr_eq_add_countP (he : Effect s i c u) (htst : i ≠ .tstIdrst)
    (hid : s.idctr + [i].countP (constructsIn s.build.nEnc) ≤ 2 ^ (8 * s.build.w.bytes)) :
    u.idctr = s.idctr + [i].countP (constructsIn s.build.nEnc) := by
  cases he with
  | encNewBadSlot e h => simp [constructsIn, h]
  | encNewExhausted e h hmax =>
    rw [List.countP_singleton, constructsIn, if_pos (decide_eq_true h), hmax] at hid
    exact absurd hid (Nat.not_succ_le_self _)
  | encNewOk e h => simp [constructsIn, h, State.constructEncoder_eq]
  | tstIdrstIllegal | tstIdrstOk => exact absurd rfl htst
  | crc16Range | crc16Ok | encodeBadSlot | encodeExhausted | encodeSerFails | encodeEncryptFails | encodeTooLong
  | encodeOk | decNewBadSlot | decNewOk | decodeBadSlot | decodeRejected | decodeOk => rfl

end

/-- The identity counter after any commands without `TST.IDRST`. -/
theorem runCommands_idctr (is : List Instr) (s : State) (htst : Instr.tstIdrst ∉ is)
    (hid : s.idctr + is.countP (constructsIn s.build.nEnc) ≤ 2 ^ (8 * s.build.w.bytes)) :
    (runCommands is s).idctr = s.idctr + is.countP (constructsIn s.build.nEnc) := by
  induction is generalizing s with
  | nil => rfl
  | cons i is ih =>
    obtain ⟨hi, his⟩ := List.ne_and_not_mem_of_not_mem_cons htst
    obtain ⟨c, u, he⟩ := exists_effect i s
    have hbuild : (u.finish c).build = s.build := he.sameHostSide.build
    rw [← List.singleton_append, List.countP_append, ← Nat.add_assoc] at hid ⊢
    have hstep : (u.finish c).idctr = s.idctr + [i].countP (constructsIn s.build.nEnc) :=
      he.idctr_eq_add_countP (Ne.symm hi) (le_of_add_le_left hid)
    rw [List.singleton_append, runCommands_cons_of_effect he, ih (u.finish c) his (by rwa [hbuild, hstep]), hstep,
      hbuild]

/-! ### The statements -/

/-- Settles O48: a step moves a counter or a slot only by a reset, after which no encoder is constructed, or by a
command, whose effect keeps the identities distinct. -/
theorem stepKeepsIdentitiesUnique : Obligations.StepKeepsIdentitiesUnique := by
  refine ⟨fun s t htest h ht => ?_, State.resetOf_idsUnique⟩
  obtain hsame | ⟨rest, hs⟩ | ⟨i, rest, -, hexec⟩ := step_cases ht
  · have hslot (e : Nat) : t.encSlot e = s.encSlot e := State.encSlot_congr hsame.enc e
    exact h.of_same_ids (by rw [hsame.enc]) (fun e => by simp [hslot]) hsame.idctr.ge
  · rw [step_of_reset s rest hs] at ht
    cases ht
    exact State.resetOf_idsUnique s.build (s.draw + 1)
  · obtain ⟨c, u, he⟩ := exists_effect i (s.setHost rest)
    rw [he.exec_eq] at hexec
    cases hexec
    exact he.idsUnique htest h

/-- Settles O26: by induction on the commands, the counter moving by what each of them counts. -/
theorem sequenceNumbersCountAdmittedEncodes : Obligations.SequenceNumbersCountAdmittedEncodes := by
  intro e is
  induction is with
  | nil => exact fun s _ _ _ => rfl
  | cons i is ih =>
    intro s hr hnew hseq
    obtain ⟨hi, his⟩ := List.ne_and_not_mem_of_not_mem_cons hnew
    obtain ⟨c, u, he⟩ := exists_effect i s
    rw [← List.singleton_append, List.count_append, ← Nat.add_assoc] at hseq ⊢
    have hslot : (u.finish c).encSlot e =
        { s.encSlot e with seq := (s.encSlot e).seq + [i].count (.encode e) } :=
      he.encSlot_eq_add_count e hr (Ne.symm hi) (le_of_add_le_left hseq)
    have hready : (u.finish c).EncReady e := ⟨he.sameHostSide.build ▸ hr.1, by rw [hslot]; exact hr.2⟩
    rw [List.singleton_append, runCommands_cons_of_effect he, ih (u.finish c) hready his (by rwa [hslot]), hslot]

/-- Settles O27: the next construction takes the identity counter the commands have left. -/
theorem identitiesFollowConstructionOrder : Obligations.IdentitiesFollowConstructionOrder := by
  intro is s htst hlen hid
  have hidctr := runCommands_idctr is s htst hid
  obtain ⟨hbuild, hslots⟩ := runCommands_keeps_slots is s
  refine ⟨hidctr, fun e he hlt => ?_⟩
  have hnew : Effect (runCommands is s) (.encNew e) .ok ((runCommands is s).constructEncoder e) :=
    .encNewOk e (by rwa [hbuild]) (by rw [hidctr, hbuild]; exact hlt.ne)
  have hslot : (((runCommands is s).constructEncoder e).finish .ok).encSlot e = _ :=
    (runCommands is s).encSlot_constructEncoder_self e (by rwa [hslots, hlen])
  exact ⟨_, hnew.exec_eq, rfl, by rw [hslot, hidctr], by rw [hslot]⟩

end Sys2Proof.Machine
end

section
/-! PROOFS. The family other, byte strings and numbers: the byte order of the packet buffer, the two's-complement code,
and the fields of a frame (R42, R74, R191). -/

namespace Sys2Proof.Machine

/-! ### A number as the weighted sum of its bytes (R8) -/

/-- The first byte of a range, then the others. -/
theorem State.memReadBytes_succ (s : State) (a n : Nat) :
    s.memReadBytes a (n + 1) = s.pktByte a :: s.memReadBytes (a + 1) n := by
  rw [Nat.add_comm, State.memReadBytes_add]
  rfl

theorem State.memRead_eq_sum (s : State) (a n : Nat) :
    s.memRead a n = ∑ i ∈ Finset.range n, (s.pktByte (a + i)).toNat * 2 ^ (8 * (n - 1 - i)) := by
  induction n generalizing a with
  | zero => rfl
  | succ n ih =>
    have hfirst : s.memRead a (n + 1) = (s.pktByte a).toNat * 2 ^ (8 * n) + s.memRead (a + 1) n := by
      rw [State.memRead, State.memReadBytes_succ, ube_cons, State.memReadBytes_length, State.memRead]
    rw [hfirst, ih, Finset.sum_range_succ', Nat.add_comm]
    refine congrArg₂ _ (Finset.sum_congr rfl fun i _ => ?_) rfl
    rw [show a + 1 + i = a + (i + 1) by omega, show n - 1 - i = n + 1 - 1 - (i + 1) by omega]

/-! ### The two's-complement code (R191) -/

theorem tc32_cast (i : Int) : (tc32 i : Int) = i % 2 ^ 32 := by
  rw [tc32, Int.toNat_of_nonneg (Int.emod_nonneg i (by decide))]

theorem tc32_lt (i : Int) : tc32 i < 2 ^ 32 := by
  have hcast := tc32_cast i
  have hlt := Int.emod_lt_of_pos i (b := 2 ^ 32) (by decide)
  omega

theorem sext32_of_lt (v : Nat) (h : v < 2 ^ 31) : sext32 v = v := if_pos h

theorem sext32_of_le (v : Nat) (h : 2 ^ 31 ≤ v) : sext32 v = v - 2 ^ 32 := if_neg (Nat.not_lt.2 h)

theorem sext32_tc32 (i : Int) (hlo : -2 ^ 31 ≤ i) (hhi : i < 2 ^ 31) : sext32 (tc32 i) = i := by
  have hcast := tc32_cast i
  rcases lt_or_ge (tc32 i) (2 ^ 31) with h | h
  · rw [sext32_of_lt _ h]
    omega
  · rw [sext32_of_le _ h]
    omega

theorem tc32_sext32 (v : Nat) (h : v < 2 ^ 32) : tc32 (sext32 v) = v := by
  have hcast := tc32_cast (sext32 v)
  rcases lt_or_ge v (2 ^ 31) with hv | hv
  · rw [sext32_of_lt v hv] at hcast ⊢
    omega
  · rw [sext32_of_le v hv] at hcast ⊢
    omega

/-- The tags of a message stand in the packet as their codes and come back as they were (R151). -/
theorem ofInt_sext32_tc32_toInt (v : BitVec 32) : BitVec.ofInt 32 (sext32 (tc32 v.toInt)) = v := by
  rw [sext32_tc32 _ (BitVec.le_toInt v) BitVec.toInt_lt, BitVec.ofInt_toInt]

/-! ### Slices (R7) -/

/-- The slice that begins where the bytes in front end. -/
theorem slice_append_append (p x q : Bytes) (a n : Nat) (ha : p.length = a) (hn : x.length = n) :
    slice (p ++ (x ++ q)) a n = x := by
  subst ha hn
  simp [slice]

/-- Of byte strings put together, the slice that begins where the `k`-th does and has its length is the `k`-th. -/
theorem slice_flatten (parts : List Bytes) (k a n : Nat) (hk : k < parts.length)
    (ha : ((parts.take k).map List.length).sum = a) (hn : parts[k].length = n) :
    slice parts.flatten a n = parts[k] := by
  have hsplit : parts.flatten = (parts.take k).flatten ++ (parts[k] ++ (parts.drop (k + 1)).flatten) := by
    rw [← List.flatten_cons, ← List.drop_eq_getElem_cons hk, ← List.flatten_append, List.take_append_drop]
  rw [hsplit]
  exact slice_append_append _ _ _ a n (by rw [List.length_flatten, ha]) hn

/-- A range of the buffer is a slice of any range from offset 0 that holds it. -/
theorem State.slice_memReadBytes (s : State) (m a n : Nat) (h : a + n ≤ m) :
    slice (s.memReadBytes 0 m) a n = s.memReadBytes a n := by
  obtain ⟨k, rfl⟩ := Nat.exists_eq_add_of_le h
  rw [State.memReadBytes_add, State.memReadBytes_add, List.append_assoc, Nat.zero_add]
  exact slice_append_append _ _ _ a n (by simp) (by simp)

/-! ### The ranges of a frame (R73) -/

section

variable (c : Crcp) (w sid seq : Nat) (grp sub : Int) (body : Bytes)

/-- The fields of a frame as they stand one behind the other. -/
def frameParts : List Bytes :=
  [[Config.magic], be w sid, be 8 seq, be 4 (25 + w + body.length),
    be 2 (crc16 c (frameHeader w sid seq body.length)).toNat, be 4 (tc32 grp), be 4 (tc32 sub), body,
    be 2 (crc16 c (frameMiddle grp sub body)).toNat]

theorem frame_eq_flatten : frame c w sid seq grp sub body = (frameParts c w sid seq grp sub body).flatten := by
  simp [frame, frameHeader, frameMiddle, frameParts]

theorem frame_length : (frame c w sid seq grp sub body).length = 25 + w + body.length := by
  simp only [frame, List.length_append, frameHeader_length, frameMiddle_length, be_length]
  omega

theorem slice_frame_sid : slice (frame c w sid seq grp sub body) 1 w = be w sid := by
  rw [frame_eq_flatten]
  exact slice_flatten _ 1 _ _ (by simp [frameParts]) (by simp [frameParts]) (by simp [frameParts])

theorem slice_frame_seq : slice (frame c w sid seq grp sub body) (1 + w) 8 = be 8 seq := by
  rw [frame_eq_flatten]
  exact slice_flatten _ 2 _ _ (by simp [frameParts]) (by simp [frameParts]) (by simp [frameParts])

theorem slice_frame_total : slice (frame c w sid seq grp sub body) (9 + w) 4 = be 4 (25 + w + body.length) := by
  rw [frame_eq_flatten]
  exact slice_flatten _ 3 _ _ (by simp [frameParts]) (by simp [frameParts]; omega) (by simp [frameParts])

theorem slice_frame_check1 :
    slice (frame c w sid seq grp sub body) (13 + w) 2 = be 2 (crc16 c (frameHeader w sid seq body.length)).toNat := by
  rw [frame_eq_flatten]
  exact slice_flatten _ 4 _ _ (by simp [frameParts]) (by simp [frameParts]; omega) (by simp [frameParts])

theorem slice_frame_grp : slice (frame c w sid seq grp sub body) (15 + w) 4 = be 4 (tc32 grp) := by
  rw [frame_eq_flatten]
  exact slice_flatten _ 5 _ _ (by simp [frameParts]) (by simp [frameParts]; omega) (by simp [frameParts])

theorem slice_frame_sub : slice (frame c w sid seq grp sub body) (19 + w) 4 = be 4 (tc32 sub) := by
  rw [frame_eq_flatten]
  exact slice_flatten _ 6 _ _ (by simp [frameParts]) (by simp [frameParts]; omega) (by simp [frameParts])

theorem slice_frame_body : slice (frame c w sid seq grp sub body) (23 + w) body.length = body := by
  rw [frame_eq_flatten]
  exact slice_flatten _ 7 _ _ (by simp [frameParts]) (by simp [frameParts]; omega) (by simp [frameParts])

theorem slice_frame_check2 : slice (frame c w sid seq grp sub body) (23 + w + body.length) 2 =
    be 2 (crc16 c (frameMiddle grp sub body)).toNat := by
  rw [frame_eq_flatten]
  exact slice_flatten _ 8 _ _ (by simp [frameParts]) (by simp [frameParts]; omega) (by simp [frameParts])

/-- The range `checksum1` covers (R68). -/
theorem slice_frame_header :
    slice (frame c w sid seq grp sub body) 0 (13 + w) = frameHeader w sid seq body.length := by
  rw [frame, List.append_assoc, List.append_assoc]
  exact slice_append_append [] _ _ _ _ rfl (frameHeader_length _ _ _ _)

/-- The range `checksum2` covers (R71). -/
theorem slice_frame_middle :
    slice (frame c w sid seq grp sub body) (15 + w) (8 + body.length) = frameMiddle grp sub body := by
  rw [frame, List.append_assoc]
  exact slice_append_append _ _ _ _ _ (by simp; omega) (frameMiddle_length _ _ _)

end

/-- A CRC fits the two bytes it is stored in (R98). -/
theorem ube_be_crc (v : BitVec 16) : ube (be 2 v.toNat) = v.toNat := ube_be 2 _ v.isLt

/-! ### The statements -/

/-- Settles O6: byte by byte, what a read weighs and what a write puts where. -/
theorem fieldsAreStoredBigEndian : Obligations.FieldsAreStoredBigEndian := by
  intro s a n v
  refine ⟨s.memRead_eq_sum a n, fun i hi => s.pktByte_memWrite_add a n v i hi, fun x hx => ?_,
    s.memRead_memWrite_self a n v, fun body i hi => ?_⟩
  · rw [State.memWrite, State.pktByte_memWriteBytes, dif_neg (by rw [be_length]; omega)]
  · simp [State.pktByte_memWriteBytes, hi]

/-- Settles O7: the two readings split at `2^31`; the corner values are computed. -/
theorem twosComplementCodesAreInverse : Obligations.TwosComplementCodesAreInverse :=
  ⟨fun i hlo hhi => ⟨tc32_cast i, tc32_lt i, sext32_tc32 i hlo hhi⟩, tc32_sext32,
    fun v => ⟨sext32_of_lt v, sext32_of_le v⟩, by decide, by decide⟩

/-- Settles O28: each field is the slice of the frame at its offset, and its number fits its width. -/
theorem fieldsOfAFrameAreItsArguments : Obligations.FieldsOfAFrameAreItsArguments := by
  intro c w sid seq grp sub body hsid hseq hglo hghi hslo hshi htot
  have hlen := frame_length c w sid seq grp sub body
  have hbody : (frame c w sid seq grp sub body).length - (25 + w) = body.length := by omega
  refine ⟨hlen, ?_⟩
  simp only [frameFields, hbody, slice_frame_sid, slice_frame_seq, slice_frame_total, slice_frame_check1,
    slice_frame_grp, slice_frame_sub, slice_frame_body, slice_frame_check2, ube_be_crc, ube_be w sid hsid,
    ube_be 8 seq hseq, ube_be 4 _ htot, ube_be 4 _ (tc32_lt _), sext32_tc32 grp hglo hghi, sext32_tc32 sub hslo hshi]

end Sys2Proof.Machine
end

section
/-! PROOFS. The family other, the CRC-16 function: the register fed bit by bit, the bursts it detects, and the
right-shifting form of the default variant (R91 to R99). -/

namespace Sys2Proof.Machine

/-! ### Reflection (R91) -/

theorem reflect_getLsbD {n : Nat} (v : BitVec n) (i : Nat) : (reflect v).getLsbD i = v.getMsbD i :=
  BitVec.getLsbD_reverse

theorem reflect_getMsbD {n : Nat} (v : BitVec n) (i : Nat) : (reflect v).getMsbD i = v.getLsbD i :=
  BitVec.getMsbD_reverse

theorem reflect_injective {n : Nat} : Function.Injective (reflect (n := n)) := fun v v' heq => by
  simpa [reflect] using congrArg BitVec.reverse heq

theorem reflect_xor {n : Nat} (v v' : BitVec n) : reflect (v ^^^ v') = reflect v ^^^ reflect v' := by
  refine BitVec.eq_of_getLsbD_eq fun i _ => ?_
  rw [BitVec.getLsbD_xor, reflect_getLsbD, reflect_getLsbD, reflect_getLsbD, BitVec.getMsbD_xor]

/-! ### One shift of the register (R91) -/

/-- A shift, with the polynomial as a summand. -/
theorem crcShift_eq (poly reg : BitVec 16) :
    crcShift poly reg = (reg <<< 1) ^^^ (if reg.getLsbD 15 then poly else 0) := by
  rw [crcShift]
  split_ifs
  · rfl
  · exact (BitVec.xor_zero).symm

/-- Bits below the top one pass through a shift as they are: they only move left. -/
theorem crcShift_xor (poly reg x : BitVec 16) (h : x.getLsbD 15 = false) :
    crcShift poly (reg ^^^ x) = crcShift poly reg ^^^ (x <<< 1) := by
  rw [crcShift_eq, crcShift_eq, BitVec.shiftLeft_xor_distrib, BitVec.getLsbD_xor, h, Bool.xor_false, BitVec.xor_assoc,
    BitVec.xor_assoc, BitVec.xor_comm (x <<< 1)]

/-- With bit 0 of `POLY` set, bit 0 after a shift is the bit that has fallen out. -/
theorem crcShift_getLsbD_zero (poly reg : BitVec 16) (h : poly.getLsbD 0 = true) :
    (crcShift poly reg).getLsbD 0 = reg.getLsbD 15 := by
  rw [crcShift_eq, BitVec.getLsbD_xor, BitVec.getLsbD_shiftLeft]
  cases reg.getLsbD 15 with
  | false => simp
  | true => simpa using h

/-- So a shift loses nothing (R94). -/
theorem crcShift_injective (poly : BitVec 16) (h : poly.getLsbD 0 = true) : Function.Injective (crcShift poly) := by
  intro r r' heq
  have htop : r.getLsbD 15 = r'.getLsbD 15 := by
    rw [← crcShift_getLsbD_zero poly r h, heq, crcShift_getLsbD_zero poly r' h]
  rw [crcShift_eq, crcShift_eq, htop, BitVec.xor_left_inj] at heq
  refine BitVec.eq_of_getLsbD_eq fun i hi => ?_
  obtain rfl | hlt : i = 15 ∨ i + 1 < 16 := by omega
  · exact htop
  · have hbit := congrArg (BitVec.getLsbD · (i + 1)) heq
    simpa only [BitVec.getLsbD_shiftLeft, hlt, Nat.not_lt.2 (Nat.le_add_left 1 i), decide_true, decide_false,
      Bool.not_false, Bool.true_and, Nat.add_sub_cancel] using hbit

theorem crcShifts_injective (poly : BitVec 16) (h : poly.getLsbD 0 = true) (n : Nat) :
    Function.Injective (crcShifts poly n) := by
  induction n with
  | zero => exact Function.injective_id
  | succ n ih => exact ih.comp (crcShift_injective poly h)

/-! ### The register fed bit by bit -/

/-- A bit at the top of the register. -/
def topBit (b : Bool) : BitVec 16 := if b then 0x8000 else 0

/-- One bit enters at the top of the register and is shifted in. -/
def crcBit (poly reg : BitVec 16) (b : Bool) : BitVec 16 := crcShift poly (reg ^^^ topBit b)

/-- Up to 16 bits side by side, the first at the top. -/
def bitsWord : List Bool → BitVec 16
  | [] => 0
  | b :: l => topBit b ^^^ (bitsWord l >>> 1)

theorem topBit_getMsbD (b : Bool) (j : Nat) : (topBit b).getMsbD j = (decide (j = 0) && b) := by
  rcases lt_or_ge j 16 with hj | hj
  · cases b with
    | false => simp [topBit]
    | true => revert j; decide
  · simp [show j ≠ 0 by omega, BitVec.getMsbD, Nat.not_lt.2 hj]

theorem bitsWord_getMsbD (l : List Bool) (j : Nat) : (bitsWord l).getMsbD j = (decide (j < 16) && l.getD j false) := by
  induction l generalizing j with
  | nil => simp [bitsWord]
  | cons b l ih =>
    rw [bitsWord, BitVec.getMsbD_xor, topBit_getMsbD, BitVec.getMsbD_ushiftRight, ih]
    cases j with
    | zero => simp
    | succ j => by_cases hj : j + 1 < 16 <;> simp [hj, Nat.lt_of_succ_lt]

/-- The word tells the bits, of as many as there were. -/
theorem bitsWord_injective {l l' : List Bool} (hlen : l.length = l'.length) (h16 : l.length ≤ 16)
    (h : bitsWord l = bitsWord l') : l = l' := by
  refine List.ext_getElem hlen fun j hj hj' => ?_
  have hbit := congrArg (BitVec.getMsbD · j) h
  simpa [bitsWord_getMsbD, hj, hj', hj.trans_le h16] using hbit

/-- Fewer than 16 bits leave room for one more in front. -/
theorem bitsWord_shift (l : List Bool) (h : l.length < 16) : (bitsWord l >>> 1) <<< 1 = bitsWord l := by
  refine BitVec.eq_of_getMsbD_eq fun j hj => ?_
  rw [BitVec.getMsbD_shiftLeft, BitVec.getMsbD_ushiftRight, bitsWord_getMsbD, bitsWord_getMsbD]
  by_cases hlt : j + 1 < 16
  · simp [hlt]
  · simp [hlt, List.getElem?_eq_none (show l.length ≤ j by omega)]

/-- Feeding up to 16 bits one by one is feeding them all at once, then shifting. -/
theorem foldl_crcBit (poly : BitVec 16) (l : List Bool) (h : l.length ≤ 16) (reg : BitVec 16) :
    l.foldl (crcBit poly) reg = crcShifts poly l.length (reg ^^^ bitsWord l) := by
  induction l generalizing reg with
  | nil => simp [crcShifts, bitsWord]
  | cons b l ih =>
    have hlt : l.length < 16 := h
    have htop : (bitsWord l >>> 1).getLsbD 15 = false := by simp
    calc (b :: l).foldl (crcBit poly) reg
        = crcShifts poly l.length (crcShift poly (reg ^^^ topBit b) ^^^ bitsWord l) := ih hlt.le _
      _ = crcShifts poly l.length (crcShift poly (reg ^^^ topBit b) ^^^ ((bitsWord l >>> 1) <<< 1)) := by
          rw [bitsWord_shift l hlt]
      _ = crcShifts poly (l.length + 1) (reg ^^^ bitsWord (b :: l)) := by
          rw [← crcShift_xor _ _ _ htop, BitVec.xor_assoc]
          rfl

/-! ### Bytes as bits (R91, R94) -/

/-- The bits of one byte in the order they enter the register. -/
def byteBits (c : Crcp) (b : Byte) : List Bool :=
  (List.range 8).map fun i => if c.refin then b.getLsbD i else b.getLsbD (7 - i)

theorem crcBitStream_cons (c : Crcp) (b : Byte) (s : Bytes) :
    crcBitStream c (b :: s) = byteBits c b ++ crcBitStream c s := rfl

@[simp] theorem byteBits_length (c : Crcp) (b : Byte) : (byteBits c b).length = 8 := by
  simp [byteBits]

/-- The bits of a byte are those of the byte that enters the register, from the top on. -/
theorem byteBits_getD (c : Crcp) (b : Byte) (j : Nat) :
    (byteBits c b).getD j false = (if c.refin then reflect b else b).getMsbD j := by
  rcases lt_or_ge j 8 with hj | hj
  · rw [byteBits, List.getD_eq_getElem _ _ (by simpa using hj), List.getElem_map, List.getElem_range]
    cases c.refin with
    | false => simp only [Bool.false_eq_true, if_false, BitVec.getMsbD_eq_getLsbD, hj, decide_true, Bool.true_and]
    | true => simp only [if_true, reflect_getMsbD]
  · rw [List.getD_eq_default _ _ (by simpa using hj)]
    simp [BitVec.getMsbD, Nat.not_lt.2 hj]

theorem bitsWord_byteBits (c : Crcp) (b : Byte) :
    bitsWord (byteBits c b) = (if c.refin then reflect b else b).setWidth 16 <<< 8 := by
  refine BitVec.eq_of_getMsbD_eq fun j hj => ?_
  rw [bitsWord_getMsbD, byteBits_getD, BitVec.getMsbD_shiftLeft, BitVec.getMsbD_setWidth]
  simp [hj]

/-- The byte loop feeds the bits of the stream one after another. -/
theorem crcBytes_eq_foldl (c : Crcp) (reg : BitVec 16) (s : Bytes) :
    crcBytes c reg s = (crcBitStream c s).foldl (crcBit c.poly) reg := by
  induction s generalizing reg with
  | nil => rfl
  | cons b s ih =>
    have hbyte : crcByte c reg b = (byteBits c b).foldl (crcBit c.poly) reg := by
      rw [foldl_crcBit _ _ (by simp), bitsWord_byteBits, byteBits_length]
      rfl
    rw [crcBytes, ih, crcBitStream_cons, List.foldl_append, hbyte]

@[simp] theorem crcBitStream_length (c : Crcp) (s : Bytes) : (crcBitStream c s).length = 8 * s.length := by
  induction s with
  | nil => rfl
  | cons b s ih =>
    rw [crcBitStream_cons, List.length_append, byteBits_length, ih, List.length_cons]
    omega

theorem crcBitStream_append (c : Crcp) (s t : Bytes) :
    crcBitStream c (s ++ t) = crcBitStream c s ++ crcBitStream c t := by
  induction s with
  | nil => rfl
  | cons b s ih => rw [List.cons_append, crcBitStream_cons, crcBitStream_cons, ih, List.append_assoc]

theorem byteBits_injective (c : Crcp) : Function.Injective (byteBits c) := by
  intro a b h
  have henter : (if c.refin then reflect a else a) = (if c.refin then reflect b else b) := by
    refine BitVec.eq_of_getMsbD_eq fun j _ => ?_
    rw [← byteBits_getD, ← byteBits_getD, h]
  cases hc : c.refin with
  | false => simpa [hc] using henter
  | true => simpa [hc, reflect] using congrArg BitVec.reverse henter

/-- The stream tells the byte string. -/
theorem crcBitStream_injective (c : Crcp) : Function.Injective (crcBitStream c) := by
  intro s t h
  induction s generalizing t with
  | nil =>
    have hlen := congrArg List.length h
    simp only [crcBitStream_length, List.length_nil] at hlen
    exact (List.length_eq_zero_iff.1 (by omega)).symm
  | cons a s ih =>
    cases t with
    | nil => simpa using congrArg List.length h
    | cons b t =>
      rw [crcBitStream_cons, crcBitStream_cons] at h
      obtain ⟨hbits, hrest⟩ := List.append_inj h (by simp)
      rw [byteBits_injective c hbits, ih hrest]

/-! ### Bursts (R94) -/

section

variable {poly : BitVec 16} (h : poly.getLsbD 0 = true)
include h

/-- The same bits take different registers to different registers. -/
theorem foldl_crcBit_injective (l : List Bool) : Function.Injective fun reg => l.foldl (crcBit poly) reg := by
  induction l with
  | nil => exact Function.injective_id
  | cons b l ih =>
    exact ih.comp ((crcShift_injective poly h).comp fun _ _ => (BitVec.xor_left_inj _).1)

/-- Up to 16 bits that are not the same take one register to different registers. -/
theorem eq_of_foldl_crcBit_eq {l l' : List Bool} (hlen : l.length = l'.length) (h16 : l.length ≤ 16)
    (reg : BitVec 16) (heq : l.foldl (crcBit poly) reg = l'.foldl (crcBit poly) reg) : l = l' := by
  rw [foldl_crcBit poly l h16, foldl_crcBit poly l' (hlen ▸ h16), ← hlen] at heq
  exact bitsWord_injective hlen h16 ((BitVec.xor_right_inj _).1 (crcShifts_injective poly h _ heq))

/-- Two streams that differ inside one window of 16 bits alone leave different registers: the bits in front leave the
same, those in the window different ones, and those behind keep them apart. -/
theorem eq_of_foldl_crcBit_eq_of_window {l l' : List Bool} (k : Nat) (hlen : l.length = l'.length)
    (hwindow : ∀ j, j < k ∨ k + 16 ≤ j → l[j]? = l'[j]?) (reg : BitVec 16)
    (heq : l.foldl (crcBit poly) reg = l'.foldl (crcBit poly) reg) : l = l' := by
  have hfront : l.take k = l'.take k := by
    refine List.ext_getElem? fun j => ?_
    rw [List.getElem?_take, List.getElem?_take]
    split_ifs with hj
    · exact hwindow j (.inl hj)
    · rfl
  have hback : (l.drop k).drop 16 = (l'.drop k).drop 16 := by
    refine List.ext_getElem? fun j => ?_
    simp only [List.getElem?_drop]
    exact hwindow _ (.inr (by omega))
  rw [← l.take_append_drop k, ← (l.drop k).take_append_drop 16, ← l'.take_append_drop k,
    ← (l'.drop k).take_append_drop 16, hfront, hback] at heq ⊢
  simp only [List.foldl_append] at heq
  have hmiddle := foldl_crcBit_injective h _ heq
  rw [eq_of_foldl_crcBit_eq h (by simp [hlen]) (by simp) _ hmiddle]

end

/-- What is done to the register at the end loses nothing. -/
theorem crcBytes_eq_of_crc16_eq (c : Crcp) (s t : Bytes) (h : crc16 c s = crc16 c t) :
    crcBytes c c.init s = crcBytes c c.init t := by
  simp only [crc16, BitVec.xor_left_inj] at h
  split_ifs at h
  · exact reflect_injective h
  · exact h

theorem crc16_ne_of_burst (c : Crcp) (hc : c.Legal) (s t : Bytes) (k : Nat) (hlen : s.length = t.length) (hne : s ≠ t)
    (hwindow : ∀ j, j < k ∨ k + 16 ≤ j → (crcBitStream c s)[j]? = (crcBitStream c t)[j]?) : crc16 c s ≠ crc16 c t := by
  intro heq
  have hreg := crcBytes_eq_of_crc16_eq c s t heq
  rw [crcBytes_eq_foldl, crcBytes_eq_foldl] at hreg
  exact hne (crcBitStream_injective c (eq_of_foldl_crcBit_eq_of_window hc k (by simp [hlen]) hwindow _ hreg))

/-- One changed byte is a burst of 8 bits. -/
theorem crc16_ne_of_byte (c : Crcp) (hc : c.Legal) (p q : Bytes) (a b : Byte) (h : a ≠ b) :
    crc16 c (p ++ a :: q) ≠ crc16 c (p ++ b :: q) := by
  refine crc16_ne_of_burst c hc _ _ (8 * p.length) (by simp) (by simpa using h) fun j hj => ?_
  rw [crcBitStream_append, crcBitStream_append, crcBitStream_cons, crcBitStream_cons]
  rcases hj with hj | hj
  · rw [List.getElem?_append_left (by simpa using hj), List.getElem?_append_left (by simpa using hj)]
  · simp only [← List.append_assoc]
    rw [List.getElem?_append_right (by simp; omega), List.getElem?_append_right (by simp; omega)]
    simp

/-! ### The right-shifting form of CRC-16/ARC (R93) -/

/-- A left shift, reflected, is a right shift. -/
theorem reflect_shiftLeft_one (v : BitVec 16) : reflect (v <<< 1) = reflect v >>> 1 := by
  refine BitVec.eq_of_getLsbD_eq fun i hi => ?_
  rw [reflect_getLsbD, BitVec.getMsbD_shiftLeft, BitVec.getLsbD_ushiftRight, reflect_getLsbD, Nat.add_comm]

theorem crcArcShift_eq (reg : BitVec 16) :
    crcArcShift reg = (reg >>> 1) ^^^ (if reg.getLsbD 0 then 0xA001 else 0) := by
  rw [crcArcShift]
  split_ifs
  · rfl
  · exact (BitVec.xor_zero).symm

/-- The constant of the shorter form is the reflected polynomial. -/
theorem reflect_arc_poly : reflect (0x8005 : BitVec 16) = 0xA001 := by decide

theorem reflect_crcShift (reg : BitVec 16) : reflect (crcShift 0x8005 reg) = crcArcShift (reflect reg) := by
  have htop : (reflect reg).getLsbD 0 = reg.getLsbD 15 := reflect_getLsbD reg 0
  have hzero : reflect (0 : BitVec 16) = 0 := by decide
  rw [crcShift_eq, crcArcShift_eq, reflect_xor, reflect_shiftLeft_one, htop, apply_ite reflect, reflect_arc_poly, hzero]

theorem reflect_crcShifts (n : Nat) (reg : BitVec 16) :
    reflect (crcShifts 0x8005 n reg) = crcArcShifts n (reflect reg) := by
  induction n generalizing reg with
  | zero => rfl
  | succ n ih => rw [crcShifts, ih, reflect_crcShift, crcArcShifts]

/-- The reflected byte in the high byte, reflected again, is the byte in the low byte. -/
theorem reflect_entered_byte (b : Byte) : reflect ((reflect b).setWidth 16 <<< 8) = b.setWidth 16 := by
  refine BitVec.eq_of_getLsbD_eq fun i hi => ?_
  rw [reflect_getLsbD, BitVec.getMsbD_shiftLeft, BitVec.getMsbD_setWidth, BitVec.getLsbD_setWidth]
  simp [reflect_getMsbD, hi]

/-- The byte loop of the default variant, reflected, is that of the shorter form. -/
theorem reflect_crcBytes (reg : BitVec 16) (s : Bytes) :
    reflect (crcBytes Crcp.arc reg s) = crcArcBytes (reflect reg) s := by
  induction s generalizing reg with
  | nil => rfl
  | cons b s ih =>
    have hbyte : crcByte Crcp.arc reg b = crcShifts 0x8005 8 (reg ^^^ ((reflect b).setWidth 16 <<< 8)) := rfl
    rw [crcBytes, ih, hbyte, reflect_crcShifts, reflect_xor, reflect_entered_byte, crcArcBytes]

/-! ### Leading zero bytes (R99) -/

theorem crcShifts_zero (poly : BitVec 16) (n : Nat) : crcShifts poly n 0 = 0 := by
  induction n with
  | zero => rfl
  | succ n ih => rw [crcShifts, crcShift_eq]; simpa using ih

/-- A zero byte leaves a zero register at zero. -/
theorem crcByte_zero (c : Crcp) : crcByte c 0 0x00 = 0 := by
  have henter : (if c.refin then reflect (0x00 : Byte) else 0x00).setWidth 16 <<< 8 = 0 := by
    cases c.refin <;> decide
  rw [crcByte, henter]
  exact crcShifts_zero _ _

/-! ### The statements -/

/-- Settles O8: the register of the shorter form is the reflected register, byte after byte. -/
theorem arcCrcEqualsItsRightShiftingForm : Obligations.ArcCrcEqualsItsRightShiftingForm := by
  refine ⟨fun s => ?_, reflect_arc_poly.symm⟩
  have hinit : reflect Crcp.arc.init = 0x0000 := by decide
  calc crc16 Crcp.arc s = reflect (crcBytes Crcp.arc Crcp.arc.init s) := BitVec.xor_zero
    _ = crc16Arc s := by rw [reflect_crcBytes, hinit, crc16Arc]

/-- Settles O9: the bits of a window of 16 stand in the register side by side, and no shift loses anything. -/
theorem crcDetectsBurstsUpToSixteenBits : Obligations.CrcDetectsBurstsUpToSixteenBits :=
  fun c hc => ⟨crc16_ne_of_burst c hc, crc16_ne_of_byte c hc⟩

/-- Settles O10: no byte changes nothing, and neither does a zero byte in a zero register. -/
theorem crcOfEmptyStringAndOfLeadingZeros : Obligations.CrcOfEmptyStringAndOfLeadingZeros := by
  refine ⟨fun c => BitVec.xor_comm _ _, by decide, fun c s hinit => ?_, fun s => ?_⟩
  · rw [crc16, crcBytes, hinit, crcByte_zero, crc16, hinit]
  · rw [crc16Arc, crcArcBytes, crc16Arc]
    rfl

/-- Settles O11: each check value computed. -/
theorem namedVariantsHaveTheirCheckValues : Obligations.NamedVariantsHaveTheirCheckValues := by
  rintro _ rfl
  refine ⟨crc16_arc_digits, ?_, ?_, ?_, ?_, ?_⟩ <;> decide +kernel

end Sys2Proof.Machine
end

section
/-! PROOFS. The family other, the collaborators: the laws the ports keep, and the test serializer and test cipher, which
are within them (R106 to R110; 95_test_vectors.md section 3). -/

namespace Sys2Proof.Machine

/-! ### UTF-8, one sequence at a time -/

theorem utf8Text_one (b0 : Byte) (s : Bytes) (h0 : b0.toNat < 0x80) :
    utf8Text (b0 :: s) = (utf8Text s).map fun t => Char.ofNat b0.toNat :: t := by
  rw [utf8Text.eq_def]
  exact if_pos h0

theorem utf8Text_two (b0 b1 : Byte) (s : Bytes) (hlo : 0xC0 ≤ b0.toNat) (hhi : b0.toNat < 0xE0)
    (h1 : isCont b1 = true) :
    utf8Text (b0 :: b1 :: s) = (scalarFrom 0x80 ((b0.toNat - 0xC0) * 64 + (b1.toNat - 0x80))).bind fun c =>
      (utf8Text s).map fun t => c :: t := by
  have h80 : ¬ b0.toNat < 0x80 := by omega
  rw [utf8Text.eq_def]
  simp only [h80, h1, hlo, hhi, Bool.not_true, Bool.false_eq_true, if_false, and_self, if_true]

theorem utf8Text_three (b0 b1 b2 : Byte) (s : Bytes) (hlo : 0xE0 ≤ b0.toNat) (hhi : b0.toNat < 0xF0)
    (h1 : isCont b1 = true) (h2 : isCont b2 = true) :
    utf8Text (b0 :: b1 :: b2 :: s) =
      (scalarFrom 0x800 ((b0.toNat - 0xE0) * 4096 + (b1.toNat - 0x80) * 64 + (b2.toNat - 0x80))).bind fun c =>
        (utf8Text s).map fun t => c :: t := by
  have h80 : ¬ b0.toNat < 0x80 := by omega
  rw [utf8Text.eq_def]
  simp only [h80, h1, h2, hlo, hhi, Bool.not_true, Bool.false_eq_true, if_false, hlo.not_gt, and_false,
    and_self, if_true]

theorem utf8Text_four (b0 b1 b2 b3 : Byte) (s : Bytes) (hlo : 0xF0 ≤ b0.toNat) (h1 : isCont b1 = true)
    (h2 : isCont b2 = true) (h3 : isCont b3 = true) :
    utf8Text (b0 :: b1 :: b2 :: b3 :: s) =
      (scalarFrom 0x10000 ((b0.toNat - 0xF0) * 262144 + (b1.toNat - 0x80) * 4096 + (b2.toNat - 0x80) * 64
        + (b3.toNat - 0x80))).bind fun c => (utf8Text s).map fun t => c :: t := by
  have hE0 : ¬ b0.toNat < 0xE0 := by omega
  have h80 : ¬ b0.toNat < 0x80 := by omega
  rw [utf8Text.eq_def]
  simp only [h80, h1, h2, h3, hlo, hE0, Bool.not_true, Bool.false_eq_true, if_false, hlo.not_gt, and_false, if_true]

/-- A code that was taken from a character gives the character back. -/
theorem scalarFrom_toNat (c : Char) (lo n : Nat) (hn : n = c.toNat) (hlo : lo ≤ c.toNat) :
    scalarFrom lo n = some c := by
  subst hn
  rw [scalarFrom, if_pos ⟨hlo, c.valid⟩, Char.ofNat_toNat]

/-- A number that fits a byte is the byte's value. -/
theorem toNat_ofNat_byte (n : Nat) (h : n < 256) : (BitVec.ofNat 8 n).toNat = n := by
  rw [BitVec.toNat_ofNat, Nat.mod_eq_of_lt h]

theorem toNat_contByte (n : Nat) : (BitVec.ofNat 8 (0x80 + n % 64)).toNat = 0x80 + n % 64 :=
  toNat_ofNat_byte _ (by omega)

theorem isCont_contByte (n : Nat) : isCont (BitVec.ofNat 8 (0x80 + n % 64)) = true := by
  simp only [isCont, toNat_contByte, Bool.and_eq_true, decide_eq_true_eq]
  omega

/-- Unicode ends at 0x10FFFF. -/
theorem char_toNat_lt (c : Char) : c.toNat < 0x110000 := by
  have hvalid : c.toNat.isValidChar := c.valid
  rw [Nat.isValidChar] at hvalid
  omega

/-- The bytes of a character read as the character, whatever follows: the four lengths of a UTF-8 sequence. -/
theorem utf8Text_utf8Char_append (c : Char) (s : Bytes) :
    utf8Text (utf8Char c ++ s) = (utf8Text s).map fun t => c :: t := by
  have hmax := char_toNat_lt c
  simp only [utf8Char]
  split_ifs with h1 h2 h3
  · have hb : (BitVec.ofNat 8 c.toNat).toNat = c.toNat := toNat_ofNat_byte _ (by omega)
    rw [List.singleton_append, utf8Text_one _ _ (by omega), hb, Char.ofNat_toNat]
  · have hb : (BitVec.ofNat 8 (0xC0 + c.toNat / 64)).toNat = _ := toNat_ofNat_byte _ (by omega)
    rw [List.cons_append, List.singleton_append, utf8Text_two _ _ _ (by omega) (by omega) (isCont_contByte _), hb,
      toNat_contByte, scalarFrom_toNat c _ _ (by omega) (by omega), Option.bind_some]
  · have hb : (BitVec.ofNat 8 (0xE0 + c.toNat / 4096)).toNat = _ := toNat_ofNat_byte _ (by omega)
    rw [List.cons_append, List.cons_append, List.singleton_append,
      utf8Text_three _ _ _ _ (by omega) (by omega) (isCont_contByte _) (isCont_contByte _), hb, toNat_contByte,
      toNat_contByte, scalarFrom_toNat c _ _ (by omega) (by omega), Option.bind_some]
  · have hb : (BitVec.ofNat 8 (0xF0 + c.toNat / 262144)).toNat = _ := toNat_ofNat_byte _ (by omega)
    rw [List.cons_append, List.cons_append, List.cons_append, List.singleton_append,
      utf8Text_four _ _ _ _ _ (by omega) (isCont_contByte _) (isCont_contByte _) (isCont_contByte _), hb,
      toNat_contByte, toNat_contByte, toNat_contByte, scalarFrom_toNat c _ _ (by omega) (by omega), Option.bind_some]

theorem utf8Text_utf8 (t : Text) : utf8Text (utf8 t) = some t := by
  induction t with
  | nil => rfl
  | cons c t ih => rw [utf8, List.flatMap_cons, utf8Text_utf8Char_append, ← utf8, ih, Option.map_some]

/-! ### The test serializer -/

/-- What `TS` writes: each text behind its length, and no text of more than 255 bytes. -/
theorem tsSerialize_eq_some_iff (p : Payload) (s : Bytes) :
    tsSerialize p = some s ↔ ∃ u t, p = .credentials u t ∧ (utf8 u).length ≤ 255 ∧ (utf8 t).length ≤ 255 ∧
      s = BitVec.ofNat 8 (utf8 u).length :: (utf8 u ++ BitVec.ofNat 8 (utf8 t).length :: utf8 t) := by
  cases p with
  | value n => simp [tsSerialize]
  | credentials u t => simp [tsSerialize, and_assoc, eq_comm (a := s)]

/-- Two texts behind their lengths read as the two texts. -/
theorem tsDeserialize_texts (u t : Text) (hu : (utf8 u).length ≤ 255) (ht : (utf8 t).length ≤ 255) :
    tsDeserialize (BitVec.ofNat 8 (utf8 u).length :: (utf8 u ++ BitVec.ofNat 8 (utf8 t).length :: utf8 t)) =
      some (.credentials u t) := by
  simp [tsDeserialize, toNat_ofNat_byte _ (Nat.lt_succ_of_le hu), toNat_ofNat_byte _ (Nat.lt_succ_of_le ht),
    utf8Text_utf8]

theorem tsDeserialize_of_tsSerialize (p : Payload) (s : Bytes) (h : tsSerialize p = some s) :
    tsDeserialize s = some p := by
  obtain ⟨u, t, rfl, hu, ht, rfl⟩ := (tsSerialize_eq_some_iff p s).1 h
  exact tsDeserialize_texts u t hu ht

/-- Whatever `TS` reads is a pair of texts, the payload type it is made for (R117). -/
theorem payloadHasType_of_tsDeserialize (s : Bytes) (p : Payload) (h : tsDeserialize s = some p) :
    payloadHasType .credentials p = true := by
  unfold tsDeserialize at h
  split at h
  · cases h
  · split at h
    · cases h
    · split_ifs at h
      simp only [Option.bind_eq_some_iff, Option.map_eq_some_iff] at h
      obtain ⟨u, -, t, -, rfl⟩ := h
      rfl

/-! ### The test cipher -/

@[simp] theorem tcXor_length (k s : Bytes) : (tcXor k s).length = s.length := List.length_mapIdx

/-- The key a second time takes the key away. -/
theorem tcXor_tcXor (k s : Bytes) : tcXor k (tcXor k s) = s := by
  refine List.ext_getElem (by simp) fun i _ _ => ?_
  simp [tcXor]

/-- Whole blocks that end in `n` bytes `n` decrypt to what stands in front of these. -/
theorem tcDecrypt_padded (k s : Bytes) (n : Nat) (hk : k.length = 16) (hlo : 1 ≤ n) (hhi : n ≤ 16)
    (hblocks : (s.length + n) % 16 = 0) :
    tcDecrypt k (tcXor k (s ++ List.replicate n (BitVec.ofNat 8 n))) = some s := by
  have hlen : (s ++ List.replicate n (BitVec.ofNat 8 n)).length = s.length + n := by simp
  have hlast : ((s ++ List.replicate n (BitVec.ofNat 8 n)).getLastD 0).toNat = n := by
    obtain ⟨m, rfl⟩ := Nat.exists_eq_add_of_le' hlo
    rw [List.replicate_succ', ← List.append_assoc, List.getLastD_concat, toNat_ofNat_byte _ (by omega)]
  rw [tcDecrypt, if_pos hk, tcXor_length, hlen, if_neg (by omega)]
  simp only [tcXor_tcXor, hlast, hlen, Nat.add_sub_cancel, List.drop_left, List.take_left, if_true]
  rw [if_neg (by omega)]

/-- A ciphertext is the next number of whole blocks, and decrypts to the plaintext. -/
theorem exists_tcEncrypt_eq (k s : Bytes) (hk : k.length = 16) :
    ∃ t, tcEncrypt k s = some t ∧ t.length = 16 * (s.length / 16 + 1) ∧ tcDecrypt k t = some s := by
  refine ⟨_, if_pos hk, ?_, tcDecrypt_padded k s _ hk (by omega) (by omega) (by omega)⟩
  rw [tcXor_length, List.length_append, List.length_replicate]
  omega

/-! ### The ports (R106 to R110) -/

/-- Where the attached pair keeps the law of R107, `SER` is the attached serializer. -/
theorem portSer_eq_attachedSer (b : Build) (p : Payload) (htype : payloadHasType b.payload p = true)
    (hlaw : ∀ s, attachedSer b.collab p = some s → attachedDes b.collab s = some p) :
    portSer b (some p) = attachedSer b.collab p := by
  refine Option.ext fun s => ?_
  rw [portSer_eq_some_iff]
  constructor
  · rintro ⟨_, ⟨⟩, hs, -⟩
    exact hs
  · exact fun hs => ⟨p, rfl, hs, (portDes_eq_some_iff b s p).2 ⟨hlaw s hs, htype⟩⟩

/-- Where the attached pair keeps the law of R110, `ENCRYPT` is the attached encryptor. -/
theorem portEncrypt_eq_attachedEncrypt (b : Build) (k s : Bytes)
    (hlaw : ∀ t, attachedEncrypt b.collab k s = some t → attachedDecrypt b.collab k t = some s) :
    portEncrypt b k s = attachedEncrypt b.collab k s := by
  refine Option.ext fun t => ?_
  rw [portEncrypt_eq_some_iff]
  exact ⟨fun h => h.1, fun h => ⟨h, hlaw t h⟩⟩

/-- What `SER` has made, `DES` takes apart (R107). -/
theorem portDes_of_portSer (b : Build) (p : Payload) (s : Bytes) (h : portSer b (some p) = some s) :
    portDes b s = some p := by
  obtain ⟨_, ⟨⟩, -, hdes⟩ := (portSer_eq_some_iff b (some p) s).1 h
  exact hdes

/-- What `ENCRYPT` has made, `DECRYPT` takes apart under the same key (R110). -/
theorem portDecrypt_of_portEncrypt (b : Build) (k s t : Bytes) (h : portEncrypt b k s = some t) :
    portDecrypt b k t = some s :=
  ((portEncrypt_eq_some_iff b k s t).1 h).2

section

variable (b : Build) (hc : b.collab = .testFixtures) (hp : b.payload = .credentials)
include hc

theorem attachedSer_testFixtures (p : Payload) : attachedSer b.collab p = tsSerialize p := by rw [hc, attachedSer]

theorem attachedDes_testFixtures (s : Bytes) : attachedDes b.collab s = tsDeserialize s := by rw [hc, attachedDes]

theorem attachedEncrypt_testFixtures (k s : Bytes) : attachedEncrypt b.collab k s = tcEncrypt k s := by
  rw [hc, attachedEncrypt]

theorem portDecrypt_testFixtures (k s : Bytes) : portDecrypt b k s = tcDecrypt k s := by
  rw [portDecrypt, hc, attachedDecrypt]

/-- `TC` keeps the law of R110 under every key of 16 bytes. -/
theorem portEncrypt_testFixtures (k s : Bytes) (hk : k.length = 16) : portEncrypt b k s = tcEncrypt k s := by
  obtain ⟨t, ht, -, hdec⟩ := exists_tcEncrypt_eq k s hk
  rw [← attachedEncrypt_testFixtures b hc] at ht ⊢
  refine portEncrypt_eq_attachedEncrypt b k s fun t' ht' => ?_
  cases ht.symm.trans ht'
  exact (portDecrypt_testFixtures b hc k t).trans hdec

include hp

theorem portDes_testFixtures (s : Bytes) : portDes b s = tsDeserialize s := by
  refine Option.ext fun p => ?_
  rw [portDes_eq_some_iff, attachedDes_testFixtures b hc, hp]
  exact ⟨fun h => h.1, fun h => ⟨h, payloadHasType_of_tsDeserialize s p h⟩⟩

/-- `TS` keeps the law of R107. -/
theorem portSer_testFixtures (p : Payload) : portSer b (some p) = tsSerialize p := by
  refine Option.ext fun s => ?_
  rw [portSer_eq_some_iff]
  constructor
  · rintro ⟨_, ⟨⟩, hs, -⟩
    rwa [attachedSer_testFixtures b hc] at hs
  · intro hs
    exact ⟨p, rfl, by rwa [attachedSer_testFixtures b hc],
      (portDes_testFixtures b hc hp s).trans (tsDeserialize_of_tsSerialize p s hs)⟩

end

/-! ### The statements -/

/-- Settles O13: the ports keep the laws by their definition, and give up nothing of a pair that keeps them. -/
theorem portsKeepTheirContract : Obligations.PortsKeepTheirContract :=
  fun b => ⟨rfl, portDes_of_portSer b, portDecrypt_of_portEncrypt b, portDes_eq_some_iff b, fun _ _ => rfl,
    portSer_eq_attachedSer b, portEncrypt_eq_attachedEncrypt b⟩

/-- Settles O14: both fixtures undo what they do, so the ports leave them as they are. -/
theorem testCollaboratorsKeepTheContract : Obligations.TestCollaboratorsKeepTheContract :=
  ⟨utf8Text_utf8, tsDeserialize_of_tsSerialize, exists_tcEncrypt_eq, fun b hc hp =>
    ⟨portSer_testFixtures b hc hp, portDes_testFixtures b hc hp, portEncrypt_testFixtures b hc,
      portDecrypt_testFixtures b hc⟩⟩

end Sys2Proof.Machine
end

section
/-! PROOFS. The family other, the packet from encoder to decoder: what a packet depends on, what a decoder reads
from it, and how it finds a changed byte (R29, R130, R133, R155 to R157). -/

namespace Sys2Proof.Machine

section

variable {s t u : State} {i : Instr} {c : Completion} {e d : Nat}

/-! ### The two units share no state (R29) -/

/-- The encoder's commands take the same exits and leave the same state, whatever the decoder slots hold. -/
theorem Effect.setDec (he : Effect s i c u) (x : List DecSlot)
    (hi : i = .encNew e ∨ i = .encode e ∨ i = .tstIdrst) :
    u.dec = s.dec ∧ Effect (s.setDec x) i c (u.setDec x) := by
  cases he with
  | encNewBadSlot e h => exact ⟨rfl, .encNewBadSlot e h⟩
  | encNewExhausted e h hid => exact ⟨rfl, .encNewExhausted e h hid⟩
  | encNewOk e h hid => exact ⟨rfl, .encNewOk e h hid⟩
  | encodeBadSlot e h => exact ⟨rfl, .encodeBadSlot e h⟩
  | encodeExhausted e h hq => exact ⟨rfl, .encodeExhausted e h hq⟩
  | encodeSerFails e h hq hser => exact ⟨rfl, .encodeSerFails e h hq hser⟩
  | encodeEncryptFails e h hq plain hser henc => exact ⟨rfl, .encodeEncryptFails e h hq plain hser henc⟩
  | encodeTooLong e h hq plain body hser henc hfit => exact ⟨rfl, .encodeTooLong e h hq plain body hser henc hfit⟩
  | encodeOk e h hq plain body hser henc hfit =>
    exact ⟨rfl, .encodeOk (s := s.setDec x) e h hq plain body hser henc hfit⟩
  | tstIdrstIllegal h => exact ⟨rfl, .tstIdrstIllegal h⟩
  | tstIdrstOk h => exact ⟨rfl, .tstIdrstOk h⟩
  | crc16Range | crc16Ok | decNewBadSlot | decNewOk | decodeBadSlot | decodeRejected | decodeOk => simp at hi

/-- The decoder's commands take the same exits and leave the same state, whatever the encoder slots and `IDCTR` hold. -/
theorem Effect.setEnc_setIdctr (he : Effect s i c u) (x : List EncSlot) (n : Nat) (hi : i = .decNew d ∨ i = .decode d) :
    u.enc = s.enc ∧ u.idctr = s.idctr ∧ Effect ((s.setEnc x).setIdctr n) i c ((u.setEnc x).setIdctr n) := by
  cases he with
  | decNewBadSlot d h => exact ⟨rfl, rfl, .decNewBadSlot d h⟩
  | decNewOk d h => exact ⟨rfl, rfl, .decNewOk d h⟩
  | decodeBadSlot d h => exact ⟨rfl, rfl, .decodeBadSlot d h⟩
  | decodeRejected d h hinv => exact ⟨rfl, rfl, .decodeRejected d h hinv⟩
  | decodeOk d h hf plain pay hdec hdes =>
    exact ⟨rfl, rfl, .decodeOk (s := (s.setEnc x).setIdctr n) d h hf plain pay hdec hdes⟩
  | crc16Range | crc16Ok | encNewBadSlot | encNewExhausted | encNewOk | encodeBadSlot | encodeExhausted | encodeSerFails
  | encodeEncryptFails | encodeTooLong | encodeOk | tstIdrstIllegal | tstIdrstOk => simp at hi

/-! ### What `ENCODE` reads (R130) -/

/-- The two states agree in all that R130 lets `ENCODE e` depend on: the parameters, slot `e`, and the message's tags
and payload. -/
structure SameEncodeInput (e : Nat) (s t : State) : Prop where
  build : s.build = t.build
  encSlot : s.encSlot e = t.encSlot e
  grp : s.msg.grp = t.msg.grp
  sub : s.msg.sub = t.msg.sub
  pay : s.msg.pay = t.msg.pay

namespace SameEncodeInput

theorem encReady_iff (h : SameEncodeInput e s t) : s.EncReady e ↔ t.EncReady e := by
  rw [State.EncReady, State.EncReady, h.build, h.encSlot]

theorem assignSequence_msg (h : SameEncodeInput e s t) : (s.assignSequence e).msg = (t.assignSequence e).msg := by
  simp only [State.assignSequence_msg, h.encSlot, h.grp, h.sub, h.pay]

theorem packetOf_eq (h : SameEncodeInput e s t) (body : Bytes) : s.packetOf e body = t.packetOf e body := by
  rw [State.packetOf, State.packetOf, h.build, h.encSlot, h.grp, h.sub]

/-- The packet in the buffer is the same, though the bytes behind it need not be. -/
theorem encoded_packet (h : SameEncodeInput e s t) (body : Bytes) :
    (s.encoded e body).plen = (t.encoded e body).plen ∧
      (s.encoded e body).memReadBytes 0 (s.encoded e body).plen =
        (t.encoded e body).memReadBytes 0 (t.encoded e body).plen := by
  refine ⟨by rw [State.encoded_plen, State.encoded_plen, h.build], ?_⟩
  rw [State.memReadBytes_encoded, State.memReadBytes_encoded, h.packetOf_eq]

end SameEncodeInput

/-- From another state with the same input `ENCODE e` takes the same exit, and with `OK` it encodes the same body. -/
theorem Effect.encode_of_sameInput (he : Effect s (.encode e) c u) (h : SameEncodeInput e s t) :
    ∃ v, Effect t (.encode e) c v ∧
      (c = .ok → ∃ body, u = s.encoded e body ∧ v = t.encoded e body) := by
  have hbuild := h.build
  have hslot := h.encSlot
  have hpay := h.pay
  cases he with
  | encodeBadSlot _ hr => exact ⟨_, .encodeBadSlot e (mt h.encReady_iff.2 hr), nofun⟩
  | encodeExhausted _ hr hq => exact ⟨_, .encodeExhausted e (h.encReady_iff.1 hr) (hslot ▸ hq), nofun⟩
  | encodeSerFails _ hr hq hser =>
    rw [hbuild, hpay] at hser
    exact ⟨_, .encodeSerFails e (h.encReady_iff.1 hr) (hslot ▸ hq) hser, nofun⟩
  | encodeEncryptFails _ hr hq plain hser henc =>
    rw [hbuild, hpay] at hser
    rw [hbuild, hslot] at henc
    exact ⟨_, .encodeEncryptFails e (h.encReady_iff.1 hr) (hslot ▸ hq) plain hser henc, nofun⟩
  | encodeTooLong _ hr hq plain body hser henc hfit =>
    rw [hbuild, hpay] at hser
    rw [hbuild, hslot] at henc
    rw [hbuild] at hfit
    exact ⟨_, .encodeTooLong e (h.encReady_iff.1 hr) (hslot ▸ hq) plain body hser henc hfit, nofun⟩
  | encodeOk _ hr hq plain body hser henc hfit =>
    rw [hbuild, hpay] at hser
    rw [hbuild, hslot] at henc
    rw [hbuild] at hfit
    exact ⟨_, .encodeOk e (h.encReady_iff.1 hr) (hslot ▸ hq) plain body hser henc hfit, fun _ => ⟨body, rfl, rfl⟩⟩

/-! ### An `ENCODE` with `OK` -/

/-- `s.EncodesTo e plain body`: `ENCODE e` is admitted, serializes to `plain`, encrypts to `body`, and the packet fits
the buffer. -/
structure State.EncodesTo (s : State) (e : Nat) (plain body : Bytes) : Prop where
  ready : s.EncReady e
  seq_ne : (s.encSlot e).seq ≠ 2 ^ 64
  ser : portSer s.build s.msg.pay = some plain
  encrypt : portEncrypt s.build (s.encSlot e).key plain = some body
  fits : 25 + s.build.w.bytes + body.length ≤ s.build.bufMax

/-- An `ENCODE` that answers `OK` has written the packet of the body it encrypted. -/
theorem exists_encodesTo_of_exec_ok (ht : exec (.encode e) s = .next t) (hok : t.status = 0x00) :
    ∃ plain body, s.EncodesTo e plain body ∧ t = (s.encoded e body).finish .ok := by
  obtain ⟨c, v, he⟩ := exists_effect_encode e s
  rw [he.exec_eq] at ht
  cases ht
  obtain rfl : c = .ok := (statusCode_eq_zero_iff c).1 hok
  cases he with
  | encodeOk _ hr hq plain body hser henc hfit => exact ⟨plain, body, ⟨hr, hq, hser, henc, hfit⟩, rfl⟩

@[simp] theorem State.encoded_build (s : State) (e : Nat) (body : Bytes) : (s.encoded e body).build = s.build := rfl

theorem State.encoded_msg (s : State) (e : Nat) (body : Bytes) :
    (s.encoded e body).msg = { s.msg with sid := (s.encSlot e).sid, seq := BitVec.ofNat 64 (s.encSlot e).seq } := rfl

theorem State.encSlot_encoded_self (s : State) (e : Nat) (body : Bytes) (h : e < s.enc.length) :
    (s.encoded e body).encSlot e = { s.encSlot e with seq := (s.encSlot e).seq + 1 } :=
  s.encSlot_assignSequence_self e h

/-- The same message by the same encoder once more: the same plaintext and the same body. -/
theorem State.EncodesTo.again {plain body plain' body' : Bytes} (h : s.EncodesTo e plain body)
    (h' : ((s.encoded e body).finish .ok).EncodesTo e plain' body') : body' = body := by
  have hslot : ((s.encoded e body).finish .ok).encSlot e = { s.encSlot e with seq := (s.encSlot e).seq + 1 } :=
    s.encSlot_encoded_self e body (s.lt_of_encSlot_valid e h.ready.2)
  have hser := h'.ser
  have henc := h'.encrypt
  rw [State.finish_build, State.encoded_build, State.finish_msg, State.encoded_msg] at hser
  rw [State.finish_build, State.encoded_build, hslot] at henc
  obtain rfl : plain = plain' := Option.some.inj (h.ser.symm.trans hser)
  exact Option.some.inj (henc.symm.trans h.encrypt)

/-! ### Reading the buffer byte by byte -/

/-- A completion leaves every byte of the buffer alone (R181). -/
@[simp] theorem State.pktByte_finish (s : State) (c : Completion) (a : Nat) :
    (s.finish c).pktByte a = s.pktByte a := rfl

/-- Two buffers that agree on a range read the same there. -/
theorem State.memReadBytes_eq_of_pktByte (a n : Nat) (h : ∀ x, a ≤ x → x < a + n → s.pktByte x = t.pktByte x) :
    s.memReadBytes a n = t.memReadBytes a n := by
  refine List.ext_getElem (by simp) fun j hj _ => ?_
  rw [State.memReadBytes_length] at hj
  rw [State.memReadBytes_getElem, State.memReadBytes_getElem, h (a + j) (by omega) (by omega)]

theorem State.memReadBytes_getElem? (s : State) (n a : Nat) (h : a < n) :
    (s.memReadBytes 0 n)[a]? = some (s.pktByte a) := by
  rw [List.getElem?_eq_getElem (by simpa using h), State.memReadBytes_getElem, Nat.zero_add]

/-- A range split at one of its offsets. -/
theorem State.memReadBytes_split (s : State) (a x n : Nat) (hlo : a ≤ x) (hhi : x < a + n) :
    s.memReadBytes a n = s.memReadBytes a (x - a) ++ s.pktByte x :: s.memReadBytes (x + 1) (a + n - (x + 1)) := by
  rw [← State.memReadBytes_succ]
  calc s.memReadBytes a n
      = s.memReadBytes a (x - a + (a + n - (x + 1) + 1)) := by congr 1; omega
    _ = s.memReadBytes a (x - a) ++ s.memReadBytes (a + (x - a)) (a + n - (x + 1) + 1) := s.memReadBytes_add _ _ _
    _ = s.memReadBytes a (x - a) ++ s.memReadBytes x (a + n - (x + 1) + 1) := by rw [Nat.add_sub_cancel' hlo]

/-- Byte strings of one length that spell the same number are the same. -/
theorem eq_of_ube_eq (x y : Bytes) (hlen : x.length = y.length) (h : ube x = ube y) : x = y := by
  induction x generalizing y with
  | nil => exact (List.length_eq_zero_iff.1 hlen.symm).symm
  | cons a x ih =>
    cases y with
    | nil => simp at hlen
    | cons b y =>
      have hlen' : x.length = y.length := by simpa using hlen
      have hx := ube_lt x
      have hy := ube_lt y
      rw [ube_cons, ube_cons, hlen'] at h
      rw [hlen'] at hx
      have hpos := Nat.two_pow_pos (8 * y.length)
      have hfirst : a.toNat = b.toNat := by
        have hdiv := congrArg (· / 2 ^ (8 * y.length)) h
        simpa [Nat.add_div_of_dvd_right, Nat.mul_add_div, Nat.mul_comm _ (2 ^ _), hpos, Nat.div_eq_of_lt hx,
          Nat.div_eq_of_lt hy] using hdiv
      rw [hfirst] at h
      rw [BitVec.eq_of_toNat_eq hfirst, ih y hlen' (Nat.add_left_cancel h)]

/-! ### Two frames that differ in the sequence number (R133) -/

/-- A part in the middle says nothing about the places outside it. -/
theorem getElem?_append_append_of_outside (p x x' q : Bytes) (hlen : x.length = x'.length) (a : Nat)
    (ha : a < p.length ∨ p.length + x.length ≤ a) : (p ++ (x ++ q))[a]? = (p ++ (x' ++ q))[a]? := by
  rcases ha with ha | ha
  · rw [List.getElem?_append_left ha, List.getElem?_append_left ha]
  · rw [List.getElem?_append_right (by omega), List.getElem?_append_right (by omega),
      List.getElem?_append_right (by omega), List.getElem?_append_right (by omega), hlen]

/-- The sequence number stands in its own field and in `checksum1`, and nowhere else. -/
theorem frame_getElem?_of_outside_seq (v : Crcp) (w sid seq seq' : Nat) (grp sub : Int) (body : Bytes) (a : Nat)
    (hseq : ¬ (1 + w ≤ a ∧ a < 9 + w)) (hcheck : ¬ (13 + w ≤ a ∧ a < 15 + w)) :
    (frame v w sid seq grp sub body)[a]? = (frame v w sid seq' grp sub body)[a]? := by
  simp only [frame_eq_flatten, frameParts, List.flatten_cons, ← List.append_assoc [Config.magic]]
  refine (getElem?_append_append_of_outside _ (be 8 seq) (be 8 seq') _ (by simp) a (by simp; omega)).trans ?_
  simp only [← List.append_assoc ([Config.magic] ++ be w sid)]
  rw [← List.append_assoc, ← List.append_assoc (_ ++ be 8 seq')]
  exact getElem?_append_append_of_outside _ _ _ _ (by simp) a (by simp; omega)

/-- The message registers after a second `ENCODE` of one message. -/
theorem State.msg_encoded_again (s : State) (e : Nat) (body : Bytes) (h : e < s.enc.length) :
    (((s.encoded e body).finish .ok).encoded e body).msg =
      { (s.encoded e body).msg with seq := (s.encoded e body).msg.seq + 1 } := by
  have hslot : ((s.encoded e body).finish .ok).encSlot e = { s.encSlot e with seq := (s.encSlot e).seq + 1 } :=
    s.encSlot_encoded_self e body h
  rw [State.encoded_msg, hslot, State.finish_msg, State.encoded_msg, BitVec.ofNat_add]
  rfl

/-- The buffer after a second `ENCODE` of one message, outside the two fields that change. -/
theorem State.pktByte_encoded_again (s : State) (e : Nat) (body : Bytes) (h : e < s.enc.length) (a : Nat)
    (hseq : ¬ (1 + s.build.w.bytes ≤ a ∧ a < 9 + s.build.w.bytes))
    (hcheck : ¬ (13 + s.build.w.bytes ≤ a ∧ a < 15 + s.build.w.bytes)) :
    (((s.encoded e body).finish .ok).encoded e body).pktByte a = (s.encoded e body).pktByte a := by
  have hslot : ((s.encoded e body).finish .ok).encSlot e = { s.encSlot e with seq := (s.encSlot e).seq + 1 } :=
    s.encSlot_encoded_self e body h
  rcases le_or_gt (25 + s.build.w.bytes + body.length) a with hout | hin
  · exact ((s.encoded e body).finish .ok).pktByte_encoded_of_le e body a hout
  · have hpacket : (((s.encoded e body).finish .ok).packetOf e body)[a]? = (s.packetOf e body)[a]? := by
      rw [State.packetOf, hslot, State.finish_build, State.encoded_build, State.finish_msg, State.encoded_msg]
      exact frame_getElem?_of_outside_seq _ _ _ _ _ _ _ _ a hseq hcheck
    rw [← State.memReadBytes_encoded, ← State.memReadBytes_encoded, State.memReadBytes_getElem? _ _ _ (by exact hin),
      State.memReadBytes_getElem? _ _ _ (by exact hin)] at hpacket
    exact Option.some.inj hpacket

end

/-! ### A frame in the buffer (R73, R74) -/

/-- The buffer holds a frame of these fields, and `PLEN` its length. -/
structure State.HoldsFrame (s : State) (sid seq : Nat) (grp sub : Int) (body : Bytes) : Prop where
  plen_eq : s.plen = 25 + s.build.w.bytes + body.length
  bytes_eq : s.memReadBytes 0 s.plen = frame s.build.crcp s.build.w.bytes sid seq grp sub body

/-- A successful `ENCODE` leaves a frame in the buffer (R126). -/
theorem State.holdsFrame_encoded (s : State) (e : Nat) (body : Bytes) :
    ((s.encoded e body).finish .ok).HoldsFrame (s.encSlot e).sid (BitVec.ofNat 64 (s.encSlot e).seq).toNat
      s.msg.grp.toInt s.msg.sub.toInt body :=
  ⟨State.encoded_plen s e body, s.memReadBytes_encoded e body⟩

/-- After an `ENCODE` that answers `OK`: the frame in the buffer, its length within the buffer, the message registers
and the parameters. -/
theorem exists_holdsFrame_of_exec_ok {s t : State} {e : Nat} (ht : exec (.encode e) s = .next t)
    (hok : t.status = 0x00) :
    ∃ plain body, s.EncodesTo e plain body ∧ t.build = s.build ∧ t.plen ≤ s.build.bufMax ∧
      t.msg = { s.msg with sid := (s.encSlot e).sid, seq := BitVec.ofNat 64 (s.encSlot e).seq } ∧
      t.HoldsFrame (s.encSlot e).sid (BitVec.ofNat 64 (s.encSlot e).seq).toNat s.msg.grp.toInt s.msg.sub.toInt
        body := by
  obtain ⟨plain, body, hs, rfl⟩ := exists_encodesTo_of_exec_ok ht hok
  refine ⟨plain, body, hs, ?_, ?_, ?_, s.holdsFrame_encoded e body⟩
  · rw [State.finish_build, State.encoded_build]
  · rw [State.finish_plen, State.encoded_plen]
    exact hs.fits
  · rw [State.finish_msg, State.encoded_msg]

namespace State.HoldsFrame

variable {s u : State} {sid seq : Nat} {grp sub : Int} {body : Bytes} (h : s.HoldsFrame sid seq grp sub body)
include h

/-- A buffer with the same bytes below the same `PLEN` holds the same frame. -/
theorem congr (hb : u.build = s.build) (hp : u.plen = s.plen) (hbytes : ∀ a < s.plen, u.pktByte a = s.pktByte a) :
    u.HoldsFrame sid seq grp sub body := by
  obtain ⟨hplen, hframe⟩ := h
  refine ⟨by rw [hp, hb, hplen], ?_⟩
  rw [hp, hb, ← hframe]
  exact State.memReadBytes_eq_of_pktByte 0 s.plen fun x _ hx => hbytes x (by omega)

/-- A range of the buffer below `PLEN` is a slice of the frame. -/
theorem memReadBytes_eq_slice (a n : Nat) (ha : a + n ≤ 25 + s.build.w.bytes + body.length) :
    s.memReadBytes a n = slice (frame s.build.crcp s.build.w.bytes sid seq grp sub body) a n := by
  rw [← h.bytes_eq, State.slice_memReadBytes s s.plen a n (by rwa [h.plen_eq])]

theorem bodyLen_eq : s.bodyLen = body.length := by
  rw [State.bodyLen, h.plen_eq]
  omega

theorem bodyBytes_eq : s.bodyBytes = body := by
  rw [State.bodyBytes, h.bodyLen_eq, h.memReadBytes_eq_slice _ _ (by omega), slice_frame_body]

/-- The length field of a frame that a 4-byte field can count is its length (R157). -/
theorem memRead_total (hlt : s.plen < 2 ^ 32) : s.memRead (9 + s.build.w.bytes) 4 = s.plen := by
  rw [State.memRead, h.memReadBytes_eq_slice _ _ (by omega), slice_frame_total, ← h.plen_eq, ube_be 4 s.plen hlt]

/-- A frame passes the tests `D1` to `D5` (R155). -/
theorem frameIntact (hlt : s.plen < 2 ^ 32) : s.FrameIntact := by
  refine ⟨by rw [h.plen_eq]; omega, ?magic, ?check1, h.memRead_total hlt, ?check2⟩
  case magic =>
    have hfirst := s.memReadBytes_getElem? s.plen 0 (by rw [h.plen_eq]; omega)
    rw [h.bytes_eq, frame_eq_flatten] at hfirst
    exact (Option.some.inj hfirst).symm
  case check1 =>
    rw [State.crcOver, h.memReadBytes_eq_slice _ _ (by omega), slice_frame_header, State.memRead,
      h.memReadBytes_eq_slice _ _ (by omega), slice_frame_check1, ube_be_crc]
  case check2 =>
    rw [h.bodyLen_eq, State.crcOver, h.memReadBytes_eq_slice _ _ (by omega), slice_frame_middle, State.memRead,
      h.memReadBytes_eq_slice _ _ (by omega), slice_frame_check2, ube_be_crc]

end State.HoldsFrame

/-- The message of a frame is the one it was made of (R151). -/
theorem State.HoldsFrame.messageOf_eq {s : State} {sid : Nat} {seq : BitVec 64} {grp sub : BitVec 32} {body : Bytes}
    (h : s.HoldsFrame sid seq.toNat grp.toInt sub.toInt body) (hsid : sid < 2 ^ (8 * s.build.w.bytes)) (pay : Payload) :
    s.messageOf pay = { sid := sid, seq := seq, grp := grp, sub := sub, pay := some pay } := by
  simp only [State.messageOf, State.memRead]
  rw [h.memReadBytes_eq_slice _ _ (by omega), h.memReadBytes_eq_slice _ _ (by omega),
    h.memReadBytes_eq_slice _ _ (by omega), h.memReadBytes_eq_slice _ _ (by omega), slice_frame_sid, slice_frame_seq,
    slice_frame_grp, slice_frame_sub, ube_be _ _ hsid, ube_be 8 _ seq.isLt, ube_be 4 _ (tc32_lt _),
    ube_be 4 _ (tc32_lt _), ofInt_sext32_tc32_toInt, ofInt_sext32_tc32_toInt, BitVec.ofNat_toNat, BitVec.setWidth_eq]

theorem State.Inv.legal {s : State} (h : s.Inv) : s.build.Legal := h.1

/-- The capacity of a legal build is below what a 4-byte field counts (R6). -/
theorem State.Inv.lt_of_le_bufMax {s : State} (h : s.Inv) {n : Nat} (hn : n ≤ s.build.bufMax) : n < 2 ^ 32 := by
  obtain ⟨-, -, -, hmax, -⟩ := h.legal
  omega

/-! ### A changed byte (R156) -/

/-- The two states agree in the parameters and `PLEN`, and in every byte below `PLEN` but the one at offset `a`. -/
structure DiffersAt (a : Nat) (t u : State) : Prop where
  build : u.build = t.build
  plen : u.plen = t.plen
  lt : a < t.plen
  ne : u.pktByte a ≠ t.pktByte a
  same : ∀ x < t.plen, x ≠ a → u.pktByte x = t.pktByte x

namespace DiffersAt

variable {a : Nat} {t u : State} (h : DiffersAt a t u)
include h

/-- A range that does not hold the byte reads the same. -/
theorem memReadBytes_eq (x n : Nat) (hn : x + n ≤ t.plen) (ha : a < x ∨ x + n ≤ a) :
    u.memReadBytes x n = t.memReadBytes x n :=
  State.memReadBytes_eq_of_pktByte x n fun y _ _ => h.same y (by omega) (by omega)

theorem memRead_eq (x n : Nat) (hn : x + n ≤ t.plen) (ha : a < x ∨ x + n ≤ a) : u.memRead x n = t.memRead x n :=
  congrArg ube (h.memReadBytes_eq x n hn ha)

theorem crcOver_eq (x n : Nat) (hn : x + n ≤ t.plen) (ha : a < x ∨ x + n ≤ a) : u.crcOver x n = t.crcOver x n := by
  rw [State.crcOver, State.crcOver, h.build, h.memReadBytes_eq x n hn ha]

/-- A range that holds the byte has another CRC. -/
theorem crcOver_ne (hc : t.build.crcp.Legal) (x n : Nat) (hn : x + n ≤ t.plen) (hlo : x ≤ a) (hhi : a < x + n) :
    u.crcOver x n ≠ t.crcOver x n := by
  rw [State.crcOver, State.crcOver, u.memReadBytes_split x a n hlo hhi, t.memReadBytes_split x a n hlo hhi,
    h.memReadBytes_eq x _ (by omega) (by omega), h.memReadBytes_eq (a + 1) _ (by omega) (by omega), h.build]
  exact crc16_ne_of_byte _ hc _ _ _ _ h.ne

/-- A number that holds the byte is another number. -/
theorem memRead_ne (x n : Nat) (hlo : x ≤ a) (hhi : a < x + n) : u.memRead x n ≠ t.memRead x n := by
  intro heq
  have hbytes := eq_of_ube_eq _ _ (by simp) heq
  rw [u.memReadBytes_split x a n hlo hhi, t.memReadBytes_split x a n hlo hhi] at hbytes
  obtain ⟨-, hrest⟩ := List.append_inj hbytes (by simp)
  exact h.ne (List.cons.inj hrest).1

/-- Of a range and the checksum stored behind it, the changed byte in either makes them disagree. -/
theorem crcOver_ne_memRead (hc : t.build.crcp.Legal) (x n : Nat) (hn : x + n + 2 ≤ t.plen) (hlo : x ≤ a)
    (hhi : a < x + n + 2) (hok : (t.crcOver x n).toNat = t.memRead (x + n) 2) :
    (u.crcOver x n).toNat ≠ u.memRead (x + n) 2 := by
  rcases lt_or_ge a (x + n) with hin | hout
  · rw [h.memRead_eq (x + n) 2 hn (by omega), ← hok, Ne, BitVec.toNat_inj]
    exact h.crcOver_ne hc x n (by omega) hlo hin
  · rw [h.crcOver_eq x n (by omega) (by omega), hok]
    exact (h.memRead_ne (x + n) 2 hout hhi).symm

end DiffersAt

/-! ### The phase in which `DECODE` stops (R143 to R147) -/

theorem State.packetInvalid_of_not_intact (s : State) (d : Nat) (h : ¬ s.FrameIntact) : s.PacketInvalid d := by
  by_contra hvalid
  exact h ((s.not_packetInvalid_iff d).1 hvalid).1

@[simp] theorem Run.phases_raiseInvalidPacket (r : Run) : r.raiseInvalidPacket.phases = r.phases := rfl

section

variable (d : Nat) (s : State) (hr : s.DecReady d) (hlen : 25 + s.build.w.bytes ≤ s.plen)
include hr hlen

theorem runDecode_phases_of_magic_ne (hmagic : s.pktByte 0 ≠ 0x13) :
    (runDecode d s).phases = [.d0, .d1, .d2] := by
  have h₂ : s.magicWrong = true := by rwa [← Bool.not_eq_false, s.magicWrong_eq_false]
  rw [runDecode_admitted d s hr.1 hr.2, decodeD1_ok _ _ (s.tooShort_eq_false.2 hlen),
    decodeD2_fail _ _ (by simpa using h₂)]
  simp

variable (hmagic : s.pktByte 0 = 0x13)
include hmagic

theorem runDecode_phases_of_check1_ne
    (hcheck1 : (s.crcOver 0 (13 + s.build.w.bytes)).toNat ≠ s.memRead (13 + s.build.w.bytes) 2) :
    (runDecode d s).phases = [.d0, .d1, .d2, .d3] := by
  have h₃ : s.check1Wrong = true := by rwa [← Bool.not_eq_false, s.check1Wrong_eq_false]
  rw [runDecode_admitted d s hr.1 hr.2, decodeD1_ok _ _ (s.tooShort_eq_false.2 hlen),
    decodeD2_ok _ _ (by simpa using s.magicWrong_eq_false.2 hmagic), decodeD3_fail _ _ (by simpa using h₃)]
  simp

theorem runDecode_phases_of_check2_ne
    (hcheck1 : (s.crcOver 0 (13 + s.build.w.bytes)).toNat = s.memRead (13 + s.build.w.bytes) 2)
    (htotal : s.memRead (9 + s.build.w.bytes) 4 = s.plen)
    (hcheck2 : (s.crcOver (15 + s.build.w.bytes) (8 + s.bodyLen)).toNat ≠
      s.memRead (23 + s.build.w.bytes + s.bodyLen) 2) :
    (runDecode d s).phases = [.d0, .d1, .d2, .d3, .d4, .d5] := by
  have h₅ : s.check2Wrong s.bodyLen = true := by rwa [← Bool.not_eq_false, s.check2Wrong_eq_false]
  rw [runDecode_admitted d s hr.1 hr.2, decodeD1_ok _ _ (s.tooShort_eq_false.2 hlen),
    decodeD2_ok _ _ (by simpa using s.magicWrong_eq_false.2 hmagic),
    decodeD3_ok _ _ (by simpa using s.check1Wrong_eq_false.2 hcheck1),
    decodeD4_ok _ _ (by simpa using s.totalField_eq.trans htotal),
    decodeD5_fail _ _ _ (by simpa [State.bodyLen_eq] using h₅)]
  simp

end

namespace DiffersAt

variable {a : Nat} {t u : State} (h : DiffersAt a t u) (d : Nat) (hr : u.DecReady d) (hf : t.FrameIntact)
include h hf

theorem minLen_le : 25 + u.build.w.bytes ≤ u.plen := by
  rw [h.build, h.plen]
  exact hf.1

/-- Behind offset 0 the magic byte is as it was. -/
theorem pktByte_zero (ha : a ≠ 0) : u.pktByte 0 = 0x13 := by
  obtain ⟨-, hmagic, -⟩ := hf
  exact (h.same 0 (Nat.zero_lt_of_lt h.lt) (Ne.symm ha)).trans hmagic

include hr

/-- The byte at offset 0: `D2` finds it. -/
theorem decode_magic (ha : a = 0) : ¬ u.FrameIntact ∧ (runDecode d u).phases = [.d0, .d1, .d2] := by
  subst ha
  have hne : u.pktByte 0 ≠ 0x13 := fun hmagic => by
    obtain ⟨-, hmagic', -⟩ := hf
    exact h.ne (hmagic.trans hmagic'.symm)
  refine ⟨fun hintact => ?_, runDecode_phases_of_magic_ne d u hr (h.minLen_le hf) hne⟩
  obtain ⟨-, hmagic, -⟩ := hintact
  exact hne hmagic

variable (hc : t.build.crcp.Legal)
include hc

/-- A byte of the header or of `checksum1`: `D3` finds it. -/
theorem decode_header (ha : a ≠ 0) (hlt : a < 15 + u.build.w.bytes) :
    ¬ u.FrameIntact ∧ (runDecode d u).phases = [.d0, .d1, .d2, .d3] := by
  rw [h.build] at hlt
  have hmagic := h.pktByte_zero hf ha
  have hlen := h.minLen_le hf
  obtain ⟨hlen', -, hcheck1, -⟩ := hf
  have hne : (u.crcOver 0 (13 + u.build.w.bytes)).toNat ≠ u.memRead (13 + u.build.w.bytes) 2 := by
    have hdiffer := h.crcOver_ne_memRead hc 0 (13 + t.build.w.bytes) (by omega) (Nat.zero_le a) (by omega)
      (by rw [Nat.zero_add]; exact hcheck1)
    rw [Nat.zero_add] at hdiffer
    rw [h.build]
    exact hdiffer
  refine ⟨fun hintact => ?_, runDecode_phases_of_check1_ne d u hr hlen hmagic hne⟩
  obtain ⟨-, -, hcheck1', -⟩ := hintact
  exact hne hcheck1'

/-- A later byte: `D5` finds it, the header being as it was. -/
theorem decode_middle (ha : 15 + u.build.w.bytes ≤ a) :
    ¬ u.FrameIntact ∧ (runDecode d u).phases = [.d0, .d1, .d2, .d3, .d4, .d5] := by
  rw [h.build] at ha
  have hmagic := h.pktByte_zero hf (by omega)
  have hlen := h.minLen_le hf
  obtain ⟨hlen', -, hcheck1, htotal, hcheck2⟩ := hf
  have hend := t.body_end hlen'
  have hlt := h.lt
  have hbodyLen : u.bodyLen = t.bodyLen := by rw [State.bodyLen, State.bodyLen, h.build, h.plen]
  have hcheck1' : (u.crcOver 0 (13 + u.build.w.bytes)).toNat = u.memRead (13 + u.build.w.bytes) 2 := by
    rw [h.build, h.crcOver_eq _ _ (by omega) (by omega), hcheck1, h.memRead_eq _ _ (by omega) (by omega)]
  have htotal' : u.memRead (9 + u.build.w.bytes) 4 = u.plen := by
    rw [h.build, h.memRead_eq _ _ (by omega) (by omega), htotal, h.plen]
  have hstored : 23 + t.build.w.bytes + t.bodyLen = 15 + t.build.w.bytes + (8 + t.bodyLen) := by omega
  have hne : (u.crcOver (15 + u.build.w.bytes) (8 + u.bodyLen)).toNat ≠
      u.memRead (23 + u.build.w.bytes + u.bodyLen) 2 := by
    rw [hstored] at hcheck2
    rw [h.build, hbodyLen, hstored]
    exact h.crcOver_ne_memRead hc _ _ (by omega) ha (by omega) hcheck2
  refine ⟨fun hintact => ?_, runDecode_phases_of_check2_ne d u hr hlen hmagic hcheck1' htotal' hne⟩
  obtain ⟨-, -, -, -, hcheck2'⟩ := hintact
  exact hne hcheck2'

end DiffersAt

/-! ### The statements -/

/-- Settles O24: the same exit is taken, and with `OK` the same packet is written. -/
theorem packetDependsOnlyOnTheOperands : Obligations.PacketDependsOnlyOnTheOperands := by
  intro e s t hbuild hslot hgrp hsub hpay
  have h : SameEncodeInput e s t := ⟨hbuild, hslot, hgrp, hsub, hpay⟩
  obtain ⟨c, u, he⟩ := exists_effect_encode e s
  obtain ⟨v, he', hsame⟩ := he.encode_of_sameInput h
  refine ⟨_, _, he.exec_eq, he'.exec_eq, rfl, fun hok => ?_⟩
  obtain ⟨body, rfl, rfl⟩ := hsame ((statusCode_eq_zero_iff c).1 hok)
  exact ⟨h.assignSequence_msg, h.encoded_packet body⟩

/-- Settles O25: the second packet is the frame of the same arguments with the next sequence number. -/
theorem secondPacketDiffersOnlyInSequenceAndChecksum1 : Obligations.SecondPacketDiffersOnlyInSequenceAndChecksum1 := by
  intro e s t u he ht htok hu huok
  obtain ⟨plain, body, hs, rfl⟩ := exists_encodesTo_of_exec_ok ht htok
  obtain ⟨plain', body', hs', rfl⟩ := exists_encodesTo_of_exec_ok hu huok
  obtain rfl : body' = body := hs.again hs'
  refine ⟨?_, ?_, fun a hseq hcheck => ?_⟩
  · simp only [State.finish_plen, State.encoded_plen, State.finish_build, State.encoded_build]
  · rw [State.finish_msg, State.finish_msg, s.msg_encoded_again e body' he]
  · rw [State.pktByte_finish, State.pktByte_finish, s.pktByte_encoded_again e body' he a hseq hcheck]

/-- Settles O35: a buffer `DECODE` accepts has passed `D1` and `D4`, and a frame that fits the buffer is shorter than
its length field can count. -/
theorem lengthFieldOfAValidPacketIsItsLength : Obligations.LengthFieldOfAValidPacketIsItsLength := by
  refine ⟨fun d s => ?_, fun e s hmax => ?_⟩
  · obtain ⟨c, u, he⟩ := exists_effect_decode d s
    refine ⟨_, he.exec_eq, fun hok => ?_⟩
    obtain rfl : c = .ok := (statusCode_eq_zero_iff c).1 hok
    cases he with
    | decodeOk _ _ hf =>
      obtain ⟨hlen, -, -, htotal, -⟩ := hf
      exact ⟨hlen, htotal⟩
  · obtain ⟨c, u, he⟩ := exists_effect_encode e s
    refine ⟨_, he.exec_eq, fun hok => ?_⟩
    obtain ⟨plain, body, -, -, hle, -, hframe⟩ := exists_holdsFrame_of_exec_ok he.exec_eq hok
    exact hframe.memRead_total (by omega)

/-- Settles O36: the frame in the buffer passes the tests, its body decrypts to the plaintext the message's payload was
serialized to, and its fields are the message's. -/
theorem decodeOfAnEncodedPacketGivesTheMessageBack : Obligations.DecodeOfAnEncodedPacketGivesTheMessageBack := by
  intro e d s t u hinv ht hok hbuild hplen hbytes hr hkey
  obtain ⟨plain, body, hs, hbuild', hle, hmsg, hframe⟩ := exists_holdsFrame_of_exec_ok ht hok
  replace hframe := hframe.congr (hbuild.trans hbuild'.symm) hplen hbytes
  obtain ⟨pay, hpay, -, hdes⟩ := (portSer_eq_some_iff _ _ _).1 hs.ser
  have hdec : portDecrypt u.build (u.decSlot d).key u.bodyBytes = some plain := by
    rw [hbuild, hkey, hframe.bodyBytes_eq]
    exact portDecrypt_of_portEncrypt _ _ _ _ hs.encrypt
  obtain ⟨hsid, -, -⟩ := hinv.encSlot e hs.ready.2
  have hmessage : u.messageOf pay = t.msg := by
    rw [hframe.messageOf_eq (by rw [hbuild]; exact hsid), hmsg]
    simp only [hpay]
  rw [(Effect.decodeOk d hr (hframe.frameIntact (hplen ▸ hinv.lt_of_le_bufMax hle)) plain pay hdec
    (by rw [hbuild]; exact hdes)).exec_eq, State.commitMessage_eq_setMsg, hmessage]
  rfl

/-- Settles O37: a packet an encoder wrote is an intact frame, and one changed byte makes the checksum over its part
disagree, or the magic byte wrong. -/
theorem decodeRejectsEverySingleByteChange : Obligations.DecodeRejectsEverySingleByteChange := by
  intro e d a s t u hinv ht hok hbuild hplen ha hne hsame hr
  obtain ⟨plain, body, -, hbuild', hle, -, hframe⟩ := exists_holdsFrame_of_exec_ok ht hok
  have hf : t.FrameIntact := hframe.frameIntact (hinv.lt_of_le_bufMax hle)
  have hc : t.build.crcp.Legal := hbuild' ▸ hinv.legal.1
  have h : DiffersAt a t u := ⟨hbuild.trans hbuild'.symm, hplen, ha, hne, hsame⟩
  have hreject (ps : List Phase) (hd : ¬ u.FrameIntact ∧ (runDecode d u).phases = ps) :
      exec (.decode d) u = .next (u.finish .invalidPacket) ∧ phasesVisited (.decode d) u = ps :=
    ⟨(Effect.decodeRejected d hr (u.packetInvalid_of_not_intact d hd.1)).exec_eq, hd.2⟩
  split_ifs with hmagic hheader
  · exact hreject _ (h.decode_magic d hr hf hmagic)
  · exact hreject _ (h.decode_header d hr hf hc hmagic hheader)
  · exact hreject _ (h.decode_middle d hr hf hc (Nat.not_lt.1 hheader))

/-- Settles O41: no exit of an encoder command is taken or made differently for what the decoder slots hold, and the
other way round. -/
theorem encoderAndDecoderStateAreDisjoint : Obligations.EncoderAndDecoderStateAreDisjoint := by
  refine ⟨fun e i hi s x => ?_, fun d i hi s x n => ?_⟩
  · obtain ⟨c, u, he⟩ := exists_effect i s
    obtain ⟨hdec, hother⟩ := he.setDec x hi
    exact ⟨_, he.exec_eq, hdec, hother.exec_eq⟩
  · obtain ⟨c, u, he⟩ := exists_effect i s
    obtain ⟨henc, hid, hother⟩ := he.setEnc_setIdctr x n hi
    exact ⟨_, he.exec_eq, henc, hid, hother.exec_eq⟩

end Sys2Proof.Machine
end
